-- ==== Sys2Proof/Word.lean ====
section
/-! DEFINITION. The two word types of the CORE (00_scope.md R6, R8): a byte is 8 bits; addresses,
register pairs, SP and PC are 16 bits. Addition and subtraction on them wrap (10_state.md R22). -/

namespace Sys2Proof

/-- An 8-bit value (R6). -/
abbrev Byte := BitVec 8

/-- A 16-bit value: an address, a register pair, SP or PC (R6). -/
abbrev Word := BitVec 16

end Sys2Proof
end

