-- ==== Sys2Proof/Syntax.lean ====
section
/-! DEFINITION. The instructions of the CORE as syntax: one constructor per row of spec/opcode_table.json
(512 rows; 30_encoding.md R90, R92, R98). The rows with an operand stand first and the rows without one after
them, each in the table's order (Lean's compiler takes a constructor with arguments only among the first 244
of a type). A constructor's
argument is the instruction's operand as it follows the opcode: `n` the byte d8, a8 or e8, `nn` the word d16
or a16 (R84). In a name, `At` stands for the parentheses of the assembler spelling: `ldBAtHl` is
`LD B,(HL)`, `ldAtHlIncA` is `LD (HL+),A`. -/

namespace Sys2Proof

/-- The instruction set: the 256 rows of the primary table and the 256 of the extended table. -/
inductive Instr where
  /-- 0x01: `LD BC,d16` (R132). -/
  | ldBcD16 (nn : Word)
  /-- 0x06: `LD B,d8` (R101). -/
  | ldBD8 (n : Byte)
  /-- 0x08: `LD (a16),SP` (R133). -/
  | ldAtA16Sp (nn : Word)
  /-- 0x0E: `LD C,d8` (R101). -/
  | ldCD8 (n : Byte)
  /-- 0x11: `LD DE,d16` (R132). -/
  | ldDeD16 (nn : Word)
  /-- 0x16: `LD D,d8` (R101). -/
  | ldDD8 (n : Byte)
  /-- 0x18: `JR e8` (R224). -/
  | jrE8 (n : Byte)
  /-- 0x1E: `LD E,d8` (R101). -/
  | ldED8 (n : Byte)
  /-- 0x20: `JR NZ,e8` (R225). -/
  | jrNzE8 (n : Byte)
  /-- 0x21: `LD HL,d16` (R132). -/
  | ldHlD16 (nn : Word)
  /-- 0x26: `LD H,d8` (R101). -/
  | ldHD8 (n : Byte)
  /-- 0x28: `JR Z,e8` (R225). -/
  | jrZE8 (n : Byte)
  /-- 0x2E: `LD L,d8` (R101). -/
  | ldLD8 (n : Byte)
  /-- 0x30: `JR NC,e8` (R225). -/
  | jrNcE8 (n : Byte)
  /-- 0x31: `LD SP,d16` (R132). -/
  | ldSpD16 (nn : Word)
  /-- 0x36: `LD (HL),d8` (R104). -/
  | ldAtHlD8 (n : Byte)
  /-- 0x38: `JR C,e8` (R225). -/
  | jrCE8 (n : Byte)
  /-- 0x3E: `LD A,d8` (R101). -/
  | ldAD8 (n : Byte)
  /-- 0xC2: `JP NZ,a16` (R222). -/
  | jpNzA16 (nn : Word)
  /-- 0xC3: `JP a16` (R221). -/
  | jpA16 (nn : Word)
  /-- 0xC4: `CALL NZ,a16` (R231). -/
  | callNzA16 (nn : Word)
  /-- 0xC6: `ADD A,d8` (R142). -/
  | addAD8 (n : Byte)
  /-- 0xCA: `JP Z,a16` (R222). -/
  | jpZA16 (nn : Word)
  /-- 0xCB: `PREFIX CB` (R245). -/
  | prefixCb (op2 : Byte)
  /-- 0xCC: `CALL Z,a16` (R231). -/
  | callZA16 (nn : Word)
  /-- 0xCD: `CALL a16` (R226). -/
  | callA16 (nn : Word)
  /-- 0xCE: `ADC A,d8` (R145). -/
  | adcAD8 (n : Byte)
  /-- 0xD2: `JP NC,a16` (R222). -/
  | jpNcA16 (nn : Word)
  /-- 0xD4: `CALL NC,a16` (R231). -/
  | callNcA16 (nn : Word)
  /-- 0xD6: `SUB d8` (R148). -/
  | subD8 (n : Byte)
  /-- 0xDA: `JP C,a16` (R222). -/
  | jpCA16 (nn : Word)
  /-- 0xDC: `CALL C,a16` (R231). -/
  | callCA16 (nn : Word)
  /-- 0xDE: `SBC A,d8` (R151). -/
  | sbcAD8 (n : Byte)
  /-- 0xE0: `LDH (a8),A` (R112). -/
  | ldhAtA8A (n : Byte)
  /-- 0xE6: `AND d8` (R154). -/
  | andD8 (n : Byte)
  /-- 0xE8: `ADD SP,e8` (R183). -/
  | addSpE8 (n : Byte)
  /-- 0xEA: `LD (a16),A` (R110). -/
  | ldAtA16A (nn : Word)
  /-- 0xEE: `XOR d8` (R157). -/
  | xorD8 (n : Byte)
  /-- 0xF0: `LDH A,(a8)` (R111). -/
  | ldhAAtA8 (n : Byte)
  /-- 0xF6: `OR d8` (R160). -/
  | orD8 (n : Byte)
  /-- 0xF8: `LD HL,SP+e8` (R135). -/
  | ldHlSpE8 (n : Byte)
  /-- 0xFA: `LD A,(a16)` (R109). -/
  | ldAAtA16 (nn : Word)
  /-- 0xFE: `CP d8` (R163). -/
  | cpD8 (n : Byte)
  /-- 0x00: `NOP` (R240). -/
  | nop
  /-- 0x02: `LD (BC),A` (R107). -/
  | ldAtBcA
  /-- 0x03: `INC BC` (R181). -/
  | incBc
  /-- 0x04: `INC B` (R164). -/
  | incB
  /-- 0x05: `DEC B` (R166). -/
  | decB
  /-- 0x07: `RLCA` (R190). -/
  | rlca
  /-- 0x09: `ADD HL,BC` (R180). -/
  | addHlBc
  /-- 0x0A: `LD A,(BC)` (R105). -/
  | ldAAtBc
  /-- 0x0B: `DEC BC` (R182). -/
  | decBc
  /-- 0x0C: `INC C` (R164). -/
  | incC
  /-- 0x0D: `DEC C` (R166). -/
  | decC
  /-- 0x0F: `RRCA` (R191). -/
  | rrca
  /-- 0x10: `STOP (absent)` (R244). -/
  | stopAbsent
  /-- 0x12: `LD (DE),A` (R108). -/
  | ldAtDeA
  /-- 0x13: `INC DE` (R181). -/
  | incDe
  /-- 0x14: `INC D` (R164). -/
  | incD
  /-- 0x15: `DEC D` (R166). -/
  | decD
  /-- 0x17: `RLA` (R192). -/
  | rla
  /-- 0x19: `ADD HL,DE` (R180). -/
  | addHlDe
  /-- 0x1A: `LD A,(DE)` (R106). -/
  | ldAAtDe
  /-- 0x1B: `DEC DE` (R182). -/
  | decDe
  /-- 0x1C: `INC E` (R164). -/
  | incE
  /-- 0x1D: `DEC E` (R166). -/
  | decE
  /-- 0x1F: `RRA` (R193). -/
  | rra
  /-- 0x22: `LD (HL+),A` (R115). -/
  | ldAtHlIncA
  /-- 0x23: `INC HL` (R181). -/
  | incHl
  /-- 0x24: `INC H` (R164). -/
  | incH
  /-- 0x25: `DEC H` (R166). -/
  | decH
  /-- 0x27: `DAA` (R168). -/
  | daa
  /-- 0x29: `ADD HL,HL` (R180). -/
  | addHlHl
  /-- 0x2A: `LD A,(HL+)` (R117). -/
  | ldAAtHlInc
  /-- 0x2B: `DEC HL` (R182). -/
  | decHl
  /-- 0x2C: `INC L` (R164). -/
  | incL
  /-- 0x2D: `DEC L` (R166). -/
  | decL
  /-- 0x2F: `CPL` (R169). -/
  | cpl
  /-- 0x32: `LD (HL-),A` (R116). -/
  | ldAtHlDecA
  /-- 0x33: `INC SP` (R181). -/
  | incSp
  /-- 0x34: `INC (HL)` (R165). -/
  | incAtHl
  /-- 0x35: `DEC (HL)` (R167). -/
  | decAtHl
  /-- 0x37: `SCF` (R170). -/
  | scf
  /-- 0x39: `ADD HL,SP` (R180). -/
  | addHlSp
  /-- 0x3A: `LD A,(HL-)` (R118). -/
  | ldAAtHlDec
  /-- 0x3B: `DEC SP` (R182). -/
  | decSp
  /-- 0x3C: `INC A` (R164). -/
  | incA
  /-- 0x3D: `DEC A` (R166). -/
  | decA
  /-- 0x3F: `CCF` (R171). -/
  | ccf
  /-- 0x40: `LD B,B` (R100). -/
  | ldBB
  /-- 0x41: `LD B,C` (R100). -/
  | ldBC
  /-- 0x42: `LD B,D` (R100). -/
  | ldBD
  /-- 0x43: `LD B,E` (R100). -/
  | ldBE
  /-- 0x44: `LD B,H` (R100). -/
  | ldBH
  /-- 0x45: `LD B,L` (R100). -/
  | ldBL
  /-- 0x46: `LD B,(HL)` (R102). -/
  | ldBAtHl
  /-- 0x47: `LD B,A` (R100). -/
  | ldBA
  /-- 0x48: `LD C,B` (R100). -/
  | ldCB
  /-- 0x49: `LD C,C` (R100). -/
  | ldCC
  /-- 0x4A: `LD C,D` (R100). -/
  | ldCD
  /-- 0x4B: `LD C,E` (R100). -/
  | ldCE
  /-- 0x4C: `LD C,H` (R100). -/
  | ldCH
  /-- 0x4D: `LD C,L` (R100). -/
  | ldCL
  /-- 0x4E: `LD C,(HL)` (R102). -/
  | ldCAtHl
  /-- 0x4F: `LD C,A` (R100). -/
  | ldCA
  /-- 0x50: `LD D,B` (R100). -/
  | ldDB
  /-- 0x51: `LD D,C` (R100). -/
  | ldDC
  /-- 0x52: `LD D,D` (R100). -/
  | ldDD
  /-- 0x53: `LD D,E` (R100). -/
  | ldDE
  /-- 0x54: `LD D,H` (R100). -/
  | ldDH
  /-- 0x55: `LD D,L` (R100). -/
  | ldDL
  /-- 0x56: `LD D,(HL)` (R102). -/
  | ldDAtHl
  /-- 0x57: `LD D,A` (R100). -/
  | ldDA
  /-- 0x58: `LD E,B` (R100). -/
  | ldEB
  /-- 0x59: `LD E,C` (R100). -/
  | ldEC
  /-- 0x5A: `LD E,D` (R100). -/
  | ldED
  /-- 0x5B: `LD E,E` (R100). -/
  | ldEE
  /-- 0x5C: `LD E,H` (R100). -/
  | ldEH
  /-- 0x5D: `LD E,L` (R100). -/
  | ldEL
  /-- 0x5E: `LD E,(HL)` (R102). -/
  | ldEAtHl
  /-- 0x5F: `LD E,A` (R100). -/
  | ldEA
  /-- 0x60: `LD H,B` (R100). -/
  | ldHB
  /-- 0x61: `LD H,C` (R100). -/
  | ldHC
  /-- 0x62: `LD H,D` (R100). -/
  | ldHD
  /-- 0x63: `LD H,E` (R100). -/
  | ldHE
  /-- 0x64: `LD H,H` (R100). -/
  | ldHH
  /-- 0x65: `LD H,L` (R100). -/
  | ldHL
  /-- 0x66: `LD H,(HL)` (R102). -/
  | ldHAtHl
  /-- 0x67: `LD H,A` (R100). -/
  | ldHA
  /-- 0x68: `LD L,B` (R100). -/
  | ldLB
  /-- 0x69: `LD L,C` (R100). -/
  | ldLC
  /-- 0x6A: `LD L,D` (R100). -/
  | ldLD
  /-- 0x6B: `LD L,E` (R100). -/
  | ldLE
  /-- 0x6C: `LD L,H` (R100). -/
  | ldLH
  /-- 0x6D: `LD L,L` (R100). -/
  | ldLL
  /-- 0x6E: `LD L,(HL)` (R102). -/
  | ldLAtHl
  /-- 0x6F: `LD L,A` (R100). -/
  | ldLA
  /-- 0x70: `LD (HL),B` (R103). -/
  | ldAtHlB
  /-- 0x71: `LD (HL),C` (R103). -/
  | ldAtHlC
  /-- 0x72: `LD (HL),D` (R103). -/
  | ldAtHlD
  /-- 0x73: `LD (HL),E` (R103). -/
  | ldAtHlE
  /-- 0x74: `LD (HL),H` (R103). -/
  | ldAtHlH
  /-- 0x75: `LD (HL),L` (R103). -/
  | ldAtHlL
  /-- 0x76: `HALT (absent)` (R243). -/
  | haltAbsent
  /-- 0x77: `LD (HL),A` (R103). -/
  | ldAtHlA
  /-- 0x78: `LD A,B` (R100). -/
  | ldAB
  /-- 0x79: `LD A,C` (R100). -/
  | ldAC
  /-- 0x7A: `LD A,D` (R100). -/
  | ldAD
  /-- 0x7B: `LD A,E` (R100). -/
  | ldAE
  /-- 0x7C: `LD A,H` (R100). -/
  | ldAH
  /-- 0x7D: `LD A,L` (R100). -/
  | ldAL
  /-- 0x7E: `LD A,(HL)` (R102). -/
  | ldAAtHl
  /-- 0x7F: `LD A,A` (R100). -/
  | ldAA
  /-- 0x80: `ADD A,B` (R140). -/
  | addAB
  /-- 0x81: `ADD A,C` (R140). -/
  | addAC
  /-- 0x82: `ADD A,D` (R140). -/
  | addAD
  /-- 0x83: `ADD A,E` (R140). -/
  | addAE
  /-- 0x84: `ADD A,H` (R140). -/
  | addAH
  /-- 0x85: `ADD A,L` (R140). -/
  | addAL
  /-- 0x86: `ADD A,(HL)` (R141). -/
  | addAAtHl
  /-- 0x87: `ADD A,A` (R140). -/
  | addAA
  /-- 0x88: `ADC A,B` (R143). -/
  | adcAB
  /-- 0x89: `ADC A,C` (R143). -/
  | adcAC
  /-- 0x8A: `ADC A,D` (R143). -/
  | adcAD
  /-- 0x8B: `ADC A,E` (R143). -/
  | adcAE
  /-- 0x8C: `ADC A,H` (R143). -/
  | adcAH
  /-- 0x8D: `ADC A,L` (R143). -/
  | adcAL
  /-- 0x8E: `ADC A,(HL)` (R144). -/
  | adcAAtHl
  /-- 0x8F: `ADC A,A` (R143). -/
  | adcAA
  /-- 0x90: `SUB B` (R146). -/
  | subB
  /-- 0x91: `SUB C` (R146). -/
  | subC
  /-- 0x92: `SUB D` (R146). -/
  | subD
  /-- 0x93: `SUB E` (R146). -/
  | subE
  /-- 0x94: `SUB H` (R146). -/
  | subH
  /-- 0x95: `SUB L` (R146). -/
  | subL
  /-- 0x96: `SUB (HL)` (R147). -/
  | subAtHl
  /-- 0x97: `SUB A` (R146). -/
  | subA
  /-- 0x98: `SBC A,B` (R149). -/
  | sbcAB
  /-- 0x99: `SBC A,C` (R149). -/
  | sbcAC
  /-- 0x9A: `SBC A,D` (R149). -/
  | sbcAD
  /-- 0x9B: `SBC A,E` (R149). -/
  | sbcAE
  /-- 0x9C: `SBC A,H` (R149). -/
  | sbcAH
  /-- 0x9D: `SBC A,L` (R149). -/
  | sbcAL
  /-- 0x9E: `SBC A,(HL)` (R150). -/
  | sbcAAtHl
  /-- 0x9F: `SBC A,A` (R149). -/
  | sbcAA
  /-- 0xA0: `AND B` (R152). -/
  | andB
  /-- 0xA1: `AND C` (R152). -/
  | andC
  /-- 0xA2: `AND D` (R152). -/
  | andD
  /-- 0xA3: `AND E` (R152). -/
  | andE
  /-- 0xA4: `AND H` (R152). -/
  | andH
  /-- 0xA5: `AND L` (R152). -/
  | andL
  /-- 0xA6: `AND (HL)` (R153). -/
  | andAtHl
  /-- 0xA7: `AND A` (R152). -/
  | andA
  /-- 0xA8: `XOR B` (R155). -/
  | xorB
  /-- 0xA9: `XOR C` (R155). -/
  | xorC
  /-- 0xAA: `XOR D` (R155). -/
  | xorD
  /-- 0xAB: `XOR E` (R155). -/
  | xorE
  /-- 0xAC: `XOR H` (R155). -/
  | xorH
  /-- 0xAD: `XOR L` (R155). -/
  | xorL
  /-- 0xAE: `XOR (HL)` (R156). -/
  | xorAtHl
  /-- 0xAF: `XOR A` (R155). -/
  | xorA
  /-- 0xB0: `OR B` (R158). -/
  | orB
  /-- 0xB1: `OR C` (R158). -/
  | orC
  /-- 0xB2: `OR D` (R158). -/
  | orD
  /-- 0xB3: `OR E` (R158). -/
  | orE
  /-- 0xB4: `OR H` (R158). -/
  | orH
  /-- 0xB5: `OR L` (R158). -/
  | orL
  /-- 0xB6: `OR (HL)` (R159). -/
  | orAtHl
  /-- 0xB7: `OR A` (R158). -/
  | orA
  /-- 0xB8: `CP B` (R161). -/
  | cpB
  /-- 0xB9: `CP C` (R161). -/
  | cpC
  /-- 0xBA: `CP D` (R161). -/
  | cpD
  /-- 0xBB: `CP E` (R161). -/
  | cpE
  /-- 0xBC: `CP H` (R161). -/
  | cpH
  /-- 0xBD: `CP L` (R161). -/
  | cpL
  /-- 0xBE: `CP (HL)` (R162). -/
  | cpAtHl
  /-- 0xBF: `CP A` (R161). -/
  | cpA
  /-- 0xC0: `RET NZ` (R228). -/
  | retNz
  /-- 0xC1: `POP BC` (R137). -/
  | popBc
  /-- 0xC5: `PUSH BC` (R136). -/
  | pushBc
  /-- 0xC7: `RST 00H` (R230). -/
  | rst00
  /-- 0xC8: `RET Z` (R228). -/
  | retZ
  /-- 0xC9: `RET` (R227). -/
  | ret
  /-- 0xCF: `RST 08H` (R230). -/
  | rst08
  /-- 0xD0: `RET NC` (R228). -/
  | retNc
  /-- 0xD1: `POP DE` (R137). -/
  | popDe
  /-- 0xD3: `--` (R246). -/
  | absentD3
  /-- 0xD5: `PUSH DE` (R136). -/
  | pushDe
  /-- 0xD7: `RST 10H` (R230). -/
  | rst10
  /-- 0xD8: `RET C` (R228). -/
  | retC
  /-- 0xD9: `RETI` (R229). -/
  | reti
  /-- 0xDB: `--` (R246). -/
  | absentDB
  /-- 0xDD: `--` (R246). -/
  | absentDD
  /-- 0xDF: `RST 18H` (R230). -/
  | rst18
  /-- 0xE1: `POP HL` (R137). -/
  | popHl
  /-- 0xE2: `LD (C),A` (R114). -/
  | ldAtCA
  /-- 0xE3: `--` (R246). -/
  | absentE3
  /-- 0xE4: `--` (R246). -/
  | absentE4
  /-- 0xE5: `PUSH HL` (R136). -/
  | pushHl
  /-- 0xE7: `RST 20H` (R230). -/
  | rst20
  /-- 0xE9: `JP HL` (R223). -/
  | jpHl
  /-- 0xEB: `--` (R246). -/
  | absentEB
  /-- 0xEC: `--` (R246). -/
  | absentEC
  /-- 0xED: `--` (R246). -/
  | absentED
  /-- 0xEF: `RST 28H` (R230). -/
  | rst28
  /-- 0xF1: `POP AF` (R138). -/
  | popAf
  /-- 0xF2: `LD A,(C)` (R113). -/
  | ldAAtC
  /-- 0xF3: `DI` (R242). -/
  | di
  /-- 0xF4: `--` (R246). -/
  | absentF4
  /-- 0xF5: `PUSH AF` (R139). -/
  | pushAf
  /-- 0xF7: `RST 30H` (R230). -/
  | rst30
  /-- 0xF9: `LD SP,HL` (R134). -/
  | ldSpHl
  /-- 0xFB: `EI` (R241). -/
  | ei
  /-- 0xFC: `--` (R246). -/
  | absentFC
  /-- 0xFD: `--` (R246). -/
  | absentFD
  /-- 0xFF: `RST 38H (absent)` (R246). -/
  | rst38Absent
  /-- 0xCB 0x00: `RLC B` (R194). -/
  | rlcB
  /-- 0xCB 0x01: `RLC C` (R194). -/
  | rlcC
  /-- 0xCB 0x02: `RLC D` (R194). -/
  | rlcD
  /-- 0xCB 0x03: `RLC E` (R194). -/
  | rlcE
  /-- 0xCB 0x04: `RLC H` (R194). -/
  | rlcH
  /-- 0xCB 0x05: `RLC L` (R194). -/
  | rlcL
  /-- 0xCB 0x06: `RLC (HL)` (R195). -/
  | rlcAtHl
  /-- 0xCB 0x07: `RLC A` (R194). -/
  | rlcA
  /-- 0xCB 0x08: `RRC B` (R196). -/
  | rrcB
  /-- 0xCB 0x09: `RRC C` (R196). -/
  | rrcC
  /-- 0xCB 0x0A: `RRC D` (R196). -/
  | rrcD
  /-- 0xCB 0x0B: `RRC E` (R196). -/
  | rrcE
  /-- 0xCB 0x0C: `RRC H` (R196). -/
  | rrcH
  /-- 0xCB 0x0D: `RRC L` (R196). -/
  | rrcL
  /-- 0xCB 0x0E: `RRC (HL)` (R197). -/
  | rrcAtHl
  /-- 0xCB 0x0F: `RRC A` (R196). -/
  | rrcA
  /-- 0xCB 0x10: `RL B` (R198). -/
  | rlB
  /-- 0xCB 0x11: `RL C` (R198). -/
  | rlC
  /-- 0xCB 0x12: `RL D` (R198). -/
  | rlD
  /-- 0xCB 0x13: `RL E` (R198). -/
  | rlE
  /-- 0xCB 0x14: `RL H` (R198). -/
  | rlH
  /-- 0xCB 0x15: `RL L` (R198). -/
  | rlL
  /-- 0xCB 0x16: `RL (HL)` (R199). -/
  | rlAtHl
  /-- 0xCB 0x17: `RL A` (R198). -/
  | rlA
  /-- 0xCB 0x18: `RR B` (R200). -/
  | rrB
  /-- 0xCB 0x19: `RR C` (R200). -/
  | rrC
  /-- 0xCB 0x1A: `RR D` (R200). -/
  | rrD
  /-- 0xCB 0x1B: `RR E` (R200). -/
  | rrE
  /-- 0xCB 0x1C: `RR H` (R200). -/
  | rrH
  /-- 0xCB 0x1D: `RR L` (R200). -/
  | rrL
  /-- 0xCB 0x1E: `RR (HL)` (R201). -/
  | rrAtHl
  /-- 0xCB 0x1F: `RR A` (R200). -/
  | rrA
  /-- 0xCB 0x20: `SLA B` (R202). -/
  | slaB
  /-- 0xCB 0x21: `SLA C` (R202). -/
  | slaC
  /-- 0xCB 0x22: `SLA D` (R202). -/
  | slaD
  /-- 0xCB 0x23: `SLA E` (R202). -/
  | slaE
  /-- 0xCB 0x24: `SLA H` (R202). -/
  | slaH
  /-- 0xCB 0x25: `SLA L` (R202). -/
  | slaL
  /-- 0xCB 0x26: `SLA (HL)` (R203). -/
  | slaAtHl
  /-- 0xCB 0x27: `SLA A` (R202). -/
  | slaA
  /-- 0xCB 0x28: `SRA B` (R204). -/
  | sraB
  /-- 0xCB 0x29: `SRA C` (R204). -/
  | sraC
  /-- 0xCB 0x2A: `SRA D` (R204). -/
  | sraD
  /-- 0xCB 0x2B: `SRA E` (R204). -/
  | sraE
  /-- 0xCB 0x2C: `SRA H` (R204). -/
  | sraH
  /-- 0xCB 0x2D: `SRA L` (R204). -/
  | sraL
  /-- 0xCB 0x2E: `SRA (HL)` (R205). -/
  | sraAtHl
  /-- 0xCB 0x2F: `SRA A` (R204). -/
  | sraA
  /-- 0xCB 0x30: `SWAP B` (R206). -/
  | swapB
  /-- 0xCB 0x31: `SWAP C` (R206). -/
  | swapC
  /-- 0xCB 0x32: `SWAP D` (R206). -/
  | swapD
  /-- 0xCB 0x33: `SWAP E` (R206). -/
  | swapE
  /-- 0xCB 0x34: `SWAP H` (R206). -/
  | swapH
  /-- 0xCB 0x35: `SWAP L` (R206). -/
  | swapL
  /-- 0xCB 0x36: `SWAP (HL)` (R207). -/
  | swapAtHl
  /-- 0xCB 0x37: `SWAP A` (R206). -/
  | swapA
  /-- 0xCB 0x38: `SRL B` (R208). -/
  | srlB
  /-- 0xCB 0x39: `SRL C` (R208). -/
  | srlC
  /-- 0xCB 0x3A: `SRL D` (R208). -/
  | srlD
  /-- 0xCB 0x3B: `SRL E` (R208). -/
  | srlE
  /-- 0xCB 0x3C: `SRL H` (R208). -/
  | srlH
  /-- 0xCB 0x3D: `SRL L` (R208). -/
  | srlL
  /-- 0xCB 0x3E: `SRL (HL)` (R209). -/
  | srlAtHl
  /-- 0xCB 0x3F: `SRL A` (R208). -/
  | srlA
  /-- 0xCB 0x40: `BIT 0,B` (R210). -/
  | bit0B
  /-- 0xCB 0x41: `BIT 0,C` (R210). -/
  | bit0C
  /-- 0xCB 0x42: `BIT 0,D` (R210). -/
  | bit0D
  /-- 0xCB 0x43: `BIT 0,E` (R210). -/
  | bit0E
  /-- 0xCB 0x44: `BIT 0,H` (R210). -/
  | bit0H
  /-- 0xCB 0x45: `BIT 0,L` (R210). -/
  | bit0L
  /-- 0xCB 0x46: `BIT 0,(HL)` (R211). -/
  | bit0AtHl
  /-- 0xCB 0x47: `BIT 0,A` (R210). -/
  | bit0A
  /-- 0xCB 0x48: `BIT 1,B` (R210). -/
  | bit1B
  /-- 0xCB 0x49: `BIT 1,C` (R210). -/
  | bit1C
  /-- 0xCB 0x4A: `BIT 1,D` (R210). -/
  | bit1D
  /-- 0xCB 0x4B: `BIT 1,E` (R210). -/
  | bit1E
  /-- 0xCB 0x4C: `BIT 1,H` (R210). -/
  | bit1H
  /-- 0xCB 0x4D: `BIT 1,L` (R210). -/
  | bit1L
  /-- 0xCB 0x4E: `BIT 1,(HL)` (R211). -/
  | bit1AtHl
  /-- 0xCB 0x4F: `BIT 1,A` (R210). -/
  | bit1A
  /-- 0xCB 0x50: `BIT 2,B` (R210). -/
  | bit2B
  /-- 0xCB 0x51: `BIT 2,C` (R210). -/
  | bit2C
  /-- 0xCB 0x52: `BIT 2,D` (R210). -/
  | bit2D
  /-- 0xCB 0x53: `BIT 2,E` (R210). -/
  | bit2E
  /-- 0xCB 0x54: `BIT 2,H` (R210). -/
  | bit2H
  /-- 0xCB 0x55: `BIT 2,L` (R210). -/
  | bit2L
  /-- 0xCB 0x56: `BIT 2,(HL)` (R211). -/
  | bit2AtHl
  /-- 0xCB 0x57: `BIT 2,A` (R210). -/
  | bit2A
  /-- 0xCB 0x58: `BIT 3,B` (R210). -/
  | bit3B
  /-- 0xCB 0x59: `BIT 3,C` (R210). -/
  | bit3C
  /-- 0xCB 0x5A: `BIT 3,D` (R210). -/
  | bit3D
  /-- 0xCB 0x5B: `BIT 3,E` (R210). -/
  | bit3E
  /-- 0xCB 0x5C: `BIT 3,H` (R210). -/
  | bit3H
  /-- 0xCB 0x5D: `BIT 3,L` (R210). -/
  | bit3L
  /-- 0xCB 0x5E: `BIT 3,(HL)` (R211). -/
  | bit3AtHl
  /-- 0xCB 0x5F: `BIT 3,A` (R210). -/
  | bit3A
  /-- 0xCB 0x60: `BIT 4,B` (R210). -/
  | bit4B
  /-- 0xCB 0x61: `BIT 4,C` (R210). -/
  | bit4C
  /-- 0xCB 0x62: `BIT 4,D` (R210). -/
  | bit4D
  /-- 0xCB 0x63: `BIT 4,E` (R210). -/
  | bit4E
  /-- 0xCB 0x64: `BIT 4,H` (R210). -/
  | bit4H
  /-- 0xCB 0x65: `BIT 4,L` (R210). -/
  | bit4L
  /-- 0xCB 0x66: `BIT 4,(HL)` (R211). -/
  | bit4AtHl
  /-- 0xCB 0x67: `BIT 4,A` (R210). -/
  | bit4A
  /-- 0xCB 0x68: `BIT 5,B` (R210). -/
  | bit5B
  /-- 0xCB 0x69: `BIT 5,C` (R210). -/
  | bit5C
  /-- 0xCB 0x6A: `BIT 5,D` (R210). -/
  | bit5D
  /-- 0xCB 0x6B: `BIT 5,E` (R210). -/
  | bit5E
  /-- 0xCB 0x6C: `BIT 5,H` (R210). -/
  | bit5H
  /-- 0xCB 0x6D: `BIT 5,L` (R210). -/
  | bit5L
  /-- 0xCB 0x6E: `BIT 5,(HL)` (R211). -/
  | bit5AtHl
  /-- 0xCB 0x6F: `BIT 5,A` (R210). -/
  | bit5A
  /-- 0xCB 0x70: `BIT 6,B` (R210). -/
  | bit6B
  /-- 0xCB 0x71: `BIT 6,C` (R210). -/
  | bit6C
  /-- 0xCB 0x72: `BIT 6,D` (R210). -/
  | bit6D
  /-- 0xCB 0x73: `BIT 6,E` (R210). -/
  | bit6E
  /-- 0xCB 0x74: `BIT 6,H` (R210). -/
  | bit6H
  /-- 0xCB 0x75: `BIT 6,L` (R210). -/
  | bit6L
  /-- 0xCB 0x76: `BIT 6,(HL)` (R211). -/
  | bit6AtHl
  /-- 0xCB 0x77: `BIT 6,A` (R210). -/
  | bit6A
  /-- 0xCB 0x78: `BIT 7,B` (R210). -/
  | bit7B
  /-- 0xCB 0x79: `BIT 7,C` (R210). -/
  | bit7C
  /-- 0xCB 0x7A: `BIT 7,D` (R210). -/
  | bit7D
  /-- 0xCB 0x7B: `BIT 7,E` (R210). -/
  | bit7E
  /-- 0xCB 0x7C: `BIT 7,H` (R210). -/
  | bit7H
  /-- 0xCB 0x7D: `BIT 7,L` (R210). -/
  | bit7L
  /-- 0xCB 0x7E: `BIT 7,(HL)` (R211). -/
  | bit7AtHl
  /-- 0xCB 0x7F: `BIT 7,A` (R210). -/
  | bit7A
  /-- 0xCB 0x80: `RES 0,B` (R212). -/
  | res0B
  /-- 0xCB 0x81: `RES 0,C` (R212). -/
  | res0C
  /-- 0xCB 0x82: `RES 0,D` (R212). -/
  | res0D
  /-- 0xCB 0x83: `RES 0,E` (R212). -/
  | res0E
  /-- 0xCB 0x84: `RES 0,H` (R212). -/
  | res0H
  /-- 0xCB 0x85: `RES 0,L` (R212). -/
  | res0L
  /-- 0xCB 0x86: `RES 0,(HL)` (R213). -/
  | res0AtHl
  /-- 0xCB 0x87: `RES 0,A` (R212). -/
  | res0A
  /-- 0xCB 0x88: `RES 1,B` (R212). -/
  | res1B
  /-- 0xCB 0x89: `RES 1,C` (R212). -/
  | res1C
  /-- 0xCB 0x8A: `RES 1,D` (R212). -/
  | res1D
  /-- 0xCB 0x8B: `RES 1,E` (R212). -/
  | res1E
  /-- 0xCB 0x8C: `RES 1,H` (R212). -/
  | res1H
  /-- 0xCB 0x8D: `RES 1,L` (R212). -/
  | res1L
  /-- 0xCB 0x8E: `RES 1,(HL)` (R213). -/
  | res1AtHl
  /-- 0xCB 0x8F: `RES 1,A` (R212). -/
  | res1A
  /-- 0xCB 0x90: `RES 2,B` (R212). -/
  | res2B
  /-- 0xCB 0x91: `RES 2,C` (R212). -/
  | res2C
  /-- 0xCB 0x92: `RES 2,D` (R212). -/
  | res2D
  /-- 0xCB 0x93: `RES 2,E` (R212). -/
  | res2E
  /-- 0xCB 0x94: `RES 2,H` (R212). -/
  | res2H
  /-- 0xCB 0x95: `RES 2,L` (R212). -/
  | res2L
  /-- 0xCB 0x96: `RES 2,(HL)` (R213). -/
  | res2AtHl
  /-- 0xCB 0x97: `RES 2,A` (R212). -/
  | res2A
  /-- 0xCB 0x98: `RES 3,B` (R212). -/
  | res3B
  /-- 0xCB 0x99: `RES 3,C` (R212). -/
  | res3C
  /-- 0xCB 0x9A: `RES 3,D` (R212). -/
  | res3D
  /-- 0xCB 0x9B: `RES 3,E` (R212). -/
  | res3E
  /-- 0xCB 0x9C: `RES 3,H` (R212). -/
  | res3H
  /-- 0xCB 0x9D: `RES 3,L` (R212). -/
  | res3L
  /-- 0xCB 0x9E: `RES 3,(HL)` (R213). -/
  | res3AtHl
  /-- 0xCB 0x9F: `RES 3,A` (R212). -/
  | res3A
  /-- 0xCB 0xA0: `RES 4,B` (R212). -/
  | res4B
  /-- 0xCB 0xA1: `RES 4,C` (R212). -/
  | res4C
  /-- 0xCB 0xA2: `RES 4,D` (R212). -/
  | res4D
  /-- 0xCB 0xA3: `RES 4,E` (R212). -/
  | res4E
  /-- 0xCB 0xA4: `RES 4,H` (R212). -/
  | res4H
  /-- 0xCB 0xA5: `RES 4,L` (R212). -/
  | res4L
  /-- 0xCB 0xA6: `RES 4,(HL)` (R213). -/
  | res4AtHl
  /-- 0xCB 0xA7: `RES 4,A` (R212). -/
  | res4A
  /-- 0xCB 0xA8: `RES 5,B` (R212). -/
  | res5B
  /-- 0xCB 0xA9: `RES 5,C` (R212). -/
  | res5C
  /-- 0xCB 0xAA: `RES 5,D` (R212). -/
  | res5D
  /-- 0xCB 0xAB: `RES 5,E` (R212). -/
  | res5E
  /-- 0xCB 0xAC: `RES 5,H` (R212). -/
  | res5H
  /-- 0xCB 0xAD: `RES 5,L` (R212). -/
  | res5L
  /-- 0xCB 0xAE: `RES 5,(HL)` (R213). -/
  | res5AtHl
  /-- 0xCB 0xAF: `RES 5,A` (R212). -/
  | res5A
  /-- 0xCB 0xB0: `RES 6,B` (R212). -/
  | res6B
  /-- 0xCB 0xB1: `RES 6,C` (R212). -/
  | res6C
  /-- 0xCB 0xB2: `RES 6,D` (R212). -/
  | res6D
  /-- 0xCB 0xB3: `RES 6,E` (R212). -/
  | res6E
  /-- 0xCB 0xB4: `RES 6,H` (R212). -/
  | res6H
  /-- 0xCB 0xB5: `RES 6,L` (R212). -/
  | res6L
  /-- 0xCB 0xB6: `RES 6,(HL)` (R213). -/
  | res6AtHl
  /-- 0xCB 0xB7: `RES 6,A` (R212). -/
  | res6A
  /-- 0xCB 0xB8: `RES 7,B` (R212). -/
  | res7B
  /-- 0xCB 0xB9: `RES 7,C` (R212). -/
  | res7C
  /-- 0xCB 0xBA: `RES 7,D` (R212). -/
  | res7D
  /-- 0xCB 0xBB: `RES 7,E` (R212). -/
  | res7E
  /-- 0xCB 0xBC: `RES 7,H` (R212). -/
  | res7H
  /-- 0xCB 0xBD: `RES 7,L` (R212). -/
  | res7L
  /-- 0xCB 0xBE: `RES 7,(HL)` (R213). -/
  | res7AtHl
  /-- 0xCB 0xBF: `RES 7,A` (R212). -/
  | res7A
  /-- 0xCB 0xC0: `SET 0,B` (R214). -/
  | set0B
  /-- 0xCB 0xC1: `SET 0,C` (R214). -/
  | set0C
  /-- 0xCB 0xC2: `SET 0,D` (R214). -/
  | set0D
  /-- 0xCB 0xC3: `SET 0,E` (R214). -/
  | set0E
  /-- 0xCB 0xC4: `SET 0,H` (R214). -/
  | set0H
  /-- 0xCB 0xC5: `SET 0,L` (R214). -/
  | set0L
  /-- 0xCB 0xC6: `SET 0,(HL)` (R215). -/
  | set0AtHl
  /-- 0xCB 0xC7: `SET 0,A` (R214). -/
  | set0A
  /-- 0xCB 0xC8: `SET 1,B` (R214). -/
  | set1B
  /-- 0xCB 0xC9: `SET 1,C` (R214). -/
  | set1C
  /-- 0xCB 0xCA: `SET 1,D` (R214). -/
  | set1D
  /-- 0xCB 0xCB: `SET 1,E` (R214). -/
  | set1E
  /-- 0xCB 0xCC: `SET 1,H` (R214). -/
  | set1H
  /-- 0xCB 0xCD: `SET 1,L` (R214). -/
  | set1L
  /-- 0xCB 0xCE: `SET 1,(HL)` (R215). -/
  | set1AtHl
  /-- 0xCB 0xCF: `SET 1,A` (R214). -/
  | set1A
  /-- 0xCB 0xD0: `SET 2,B` (R214). -/
  | set2B
  /-- 0xCB 0xD1: `SET 2,C` (R214). -/
  | set2C
  /-- 0xCB 0xD2: `SET 2,D` (R214). -/
  | set2D
  /-- 0xCB 0xD3: `SET 2,E` (R214). -/
  | set2E
  /-- 0xCB 0xD4: `SET 2,H` (R214). -/
  | set2H
  /-- 0xCB 0xD5: `SET 2,L` (R214). -/
  | set2L
  /-- 0xCB 0xD6: `SET 2,(HL)` (R215). -/
  | set2AtHl
  /-- 0xCB 0xD7: `SET 2,A` (R214). -/
  | set2A
  /-- 0xCB 0xD8: `SET 3,B` (R214). -/
  | set3B
  /-- 0xCB 0xD9: `SET 3,C` (R214). -/
  | set3C
  /-- 0xCB 0xDA: `SET 3,D` (R214). -/
  | set3D
  /-- 0xCB 0xDB: `SET 3,E` (R214). -/
  | set3E
  /-- 0xCB 0xDC: `SET 3,H` (R214). -/
  | set3H
  /-- 0xCB 0xDD: `SET 3,L` (R214). -/
  | set3L
  /-- 0xCB 0xDE: `SET 3,(HL)` (R215). -/
  | set3AtHl
  /-- 0xCB 0xDF: `SET 3,A` (R214). -/
  | set3A
  /-- 0xCB 0xE0: `SET 4,B` (R214). -/
  | set4B
  /-- 0xCB 0xE1: `SET 4,C` (R214). -/
  | set4C
  /-- 0xCB 0xE2: `SET 4,D` (R214). -/
  | set4D
  /-- 0xCB 0xE3: `SET 4,E` (R214). -/
  | set4E
  /-- 0xCB 0xE4: `SET 4,H` (R214). -/
  | set4H
  /-- 0xCB 0xE5: `SET 4,L` (R214). -/
  | set4L
  /-- 0xCB 0xE6: `SET 4,(HL)` (R215). -/
  | set4AtHl
  /-- 0xCB 0xE7: `SET 4,A` (R214). -/
  | set4A
  /-- 0xCB 0xE8: `SET 5,B` (R214). -/
  | set5B
  /-- 0xCB 0xE9: `SET 5,C` (R214). -/
  | set5C
  /-- 0xCB 0xEA: `SET 5,D` (R214). -/
  | set5D
  /-- 0xCB 0xEB: `SET 5,E` (R214). -/
  | set5E
  /-- 0xCB 0xEC: `SET 5,H` (R214). -/
  | set5H
  /-- 0xCB 0xED: `SET 5,L` (R214). -/
  | set5L
  /-- 0xCB 0xEE: `SET 5,(HL)` (R215). -/
  | set5AtHl
  /-- 0xCB 0xEF: `SET 5,A` (R214). -/
  | set5A
  /-- 0xCB 0xF0: `SET 6,B` (R214). -/
  | set6B
  /-- 0xCB 0xF1: `SET 6,C` (R214). -/
  | set6C
  /-- 0xCB 0xF2: `SET 6,D` (R214). -/
  | set6D
  /-- 0xCB 0xF3: `SET 6,E` (R214). -/
  | set6E
  /-- 0xCB 0xF4: `SET 6,H` (R214). -/
  | set6H
  /-- 0xCB 0xF5: `SET 6,L` (R214). -/
  | set6L
  /-- 0xCB 0xF6: `SET 6,(HL)` (R215). -/
  | set6AtHl
  /-- 0xCB 0xF7: `SET 6,A` (R214). -/
  | set6A
  /-- 0xCB 0xF8: `SET 7,B` (R214). -/
  | set7B
  /-- 0xCB 0xF9: `SET 7,C` (R214). -/
  | set7C
  /-- 0xCB 0xFA: `SET 7,D` (R214). -/
  | set7D
  /-- 0xCB 0xFB: `SET 7,E` (R214). -/
  | set7E
  /-- 0xCB 0xFC: `SET 7,H` (R214). -/
  | set7H
  /-- 0xCB 0xFD: `SET 7,L` (R214). -/
  | set7L
  /-- 0xCB 0xFE: `SET 7,(HL)` (R215). -/
  | set7AtHl
  /-- 0xCB 0xFF: `SET 7,A` (R214). -/
  | set7A
deriving DecidableEq, Repr

end Sys2Proof
end

