-- ==== Sys2Proof/WellFormed.lean ====
section
/-! DEFINITION. Which terms of `Instr` are instructions of the machine. Every operand value of every format
is legal (30_encoding.md R95), so no operand is checked. The one check is R245's: `PREFIX CB` is a row of the
primary table but not an instruction of its own. The bytes `CB op2` are ONE instruction, the extended-table
row that op2 selects, so no bytes decode to `prefixCb` (log entry 8). -/

namespace Sys2Proof

/-- The escape by itself (R245). -/
def Instr.isEscape (i : Instr) : Bool :=
  match i with
  | .prefixCb _ => true
  | _ => false

/-- `i` is an instruction that some bytes decode to. -/
def WellFormed (i : Instr) : Bool := !i.isEscape

end Sys2Proof
end

