-- ==== Sys2Proof/Config.lean ====
section
/-! DEFINITION. The parameters of 00_scope.md R7: what is fixed for one machine and never changes during a
run. `Machine.State` carries one `Config` as a constant component (log entry 1), so that a statement about
every state holds for every choice of the parameters. HOST_IO, the last row of R7's table, is not here: it
is the free choice of the host's moves in `Machine/Run.lean`. -/

namespace Sys2Proof

/-- Mutable storage as data: (address, byte) pairs. The canonical form (addresses strictly rising, no entry
equal to 0x00, which is what an unlisted address reads as) is `Memory.wf` in Machine/Ops.lean. -/
abbrev Memory := List Host.Cell

/-- `HALT_STOP_POLICY` (R7, 46_system.md R243, R244). -/
inductive HaltStopPolicy where
  | decodeError
  | nop
deriving DecidableEq, Repr

/-- `ROM_WRITE_POLICY` (R7, 20_memory.md R54). -/
inductive RomWritePolicy where
  | addressError
  | ignore
deriving DecidableEq, Repr

/-- The parameters of R7. -/
structure Config where
  /-- `IMAGE`, the cartridge image: offset 0 is read at address 0x0100 (R53). -/
  image : List Byte
  resetA : Byte
  resetB : Byte
  resetC : Byte
  resetD : Byte
  resetE : Byte
  resetH : Byte
  resetL : Byte
  /-- `RESET_F`: its low nibble is 0 (R343). -/
  resetF : Byte
  resetIme : Bool
  /-- `RAM_INIT`: what mutable storage holds at reset (R345). -/
  ramInit : Memory
  /-- `ABSENT_PRIMARY` (30_encoding.md R94). -/
  absentPrimary : List Byte
  /-- `ABSENT_EXTENDED` (R92). -/
  absentExtended : List Byte
  haltStop : HaltStopPolicy
  romWrite : RomWritePolicy
  /-- `LATCH_WRITE`, a function from a byte to a bit, as its truth table: bit `v` of the table is
  `LATCH_WRITE(v)` (R55; log entry 4). -/
  latchWrite : BitVec 256
deriving DecidableEq, Repr

/-- The default of `ABSENT_PRIMARY`: the fourteen members of R94. -/
def defaultAbsentPrimary : List Byte :=
  [0x10, 0x76, 0xD3, 0xDB, 0xDD, 0xE3, 0xE4, 0xEB, 0xEC, 0xED, 0xF4, 0xFC, 0xFD, 0xFF]

/-- The default of `LATCH_WRITE`: bit 0 of the byte written, so exactly the odd positions of the truth
table are 1 (R7, R55). -/
def defaultLatchWrite : BitVec 256 :=
  0xAAAAAAAAAAAAAAAAAAAAAAAAAAAAAAAAAAAAAAAAAAAAAAAAAAAAAAAAAAAAAAAA

/-- R7's defaults. `IMAGE` has none: it is always supplied from outside, and is empty here (log entry 3).
`RAM_INIT` is open: all zero here (log entry 2). -/
def defaultConfig : Config where
  image := []
  resetA := 0x01
  resetB := 0x00
  resetC := 0x13
  resetD := 0x00
  resetE := 0xD8
  resetH := 0x01
  resetL := 0x4D
  resetF := 0xB0
  resetIme := false
  ramInit := []
  absentPrimary := defaultAbsentPrimary
  absentExtended := []
  haltStop := .decodeError
  romWrite := .addressError
  latchWrite := defaultLatchWrite

end Sys2Proof
end

