-- ==== Sys2Proof/Machine/State.lean ====
section
/-! DEFINITION. The state of the CORE (10_state.md R20) as plain data, the state after reset
(70_reset_and_hazards.md R340 to R346), and the reasons a step can stop. -/

namespace Sys2Proof.Machine

/-- The seven 8-bit general registers (R21). The pairs BC, DE, HL are views of their halves (R23). -/
structure Regs where
  a : Byte
  b : Byte
  c : Byte
  d : Byte
  e : Byte
  h : Byte
  l : Byte
deriving DecidableEq, Repr

/-- The four flags, kept as booleans (R28); the flag byte F is their packed view (R29). -/
structure Flags where
  /-- Z, zero. -/
  z : Bool
  /-- N, negative/subtract. -/
  n : Bool
  /-- Hf, half-carry. -/
  h : Bool
  /-- Cf, carry. -/
  c : Bool
deriving DecidableEq, Repr

/-- The CORE's three faults with the value each records (60_exceptions.md R300 to R303), in the source's
order. These are values of the machine's own run state, not reasons for the model to stop. -/
inductive FaultCause where
  /-- An opcode, or an extended opcode, absent from its table (R301): the offending byte. -/
  | decodeError (op : Byte)
  /-- A write to the ROM region (R302): the address of the byte write. -/
  | addressError (addr : Word)
  /-- A read of the ROM region beyond the image (R303): the address of the byte read. -/
  | configError (addr : Word)
deriving DecidableEq, Repr

/-- RUN, the run state (R37). `faulted` holds the kind with its info, and the address of the faulting
instruction's first byte. -/
inductive RunState where
  | running
  | faulted (cause : FaultCause) (pc : Word)
  | stopped
deriving DecidableEq, Repr

/-- The whole state (R20), and the configuration `cfg`, which no step changes (log entry 1). -/
structure State where
  regs : Regs
  flags : Flags
  sp : Word
  pc : Word
  /-- IME, the one-bit interrupt-enable latch at bus address 0xFFFF (R33). -/
  ime : Bool
  /-- MEM, the mutable storage at [0x0000,0x00FF] and [0x8000,0xFFFE] (R36). -/
  mem : Memory
  run : RunState
  cfg : Config
deriving DecidableEq, Repr

/-- Why a step, or a host move, finds the machine stuck. -/
inductive Fault where
  /-- Raised by `step` and `hostMove` when RUN is `faulted`: a fault is terminal and the CORE takes no
  further step (60_exceptions.md R306; 93 U1). Safe: nothing follows on the hardware either. -/
  | coreFaulted (cause : FaultCause) (pc : Word)
  /-- Raised by `step` and `hostMove` when RUN is `stopped`: the run has ended (R321, R354). Safe: a step
  is taken only in `running` (R37). -/
  | coreStopped
deriving DecidableEq, Repr

/-- Why the model declines to give a next state. -/
inductive Refusal where
  /-- Kept for an instruction that has no meaning yet; no arm of `exec` answers it in this model. Safe. -/
  | notModelled (mnemonic : String)
  /-- Raised by `hostMove` alone, never by a step: a host write outside [0xFF00,0xFF7F], a move the spec
  does not grant the host (70_reset_and_hazards.md R352). Safe. -/
  | hostMoveNotGranted
deriving DecidableEq, Repr

/-- The three outcomes of a step on this machine. -/
abbrev Result := Host.Outcome State Fault Refusal

/-- The state right after reset under the parameters `cfg` (R340 to R345). -/
def State.resetWith (cfg : Config) : State where
  regs := { a := cfg.resetA, b := cfg.resetB, c := cfg.resetC, d := cfg.resetD, e := cfg.resetE,
            h := cfg.resetH, l := cfg.resetL }
  flags := { z := cfg.resetF.getLsbD 7, n := cfg.resetF.getLsbD 6, h := cfg.resetF.getLsbD 5,
             c := cfg.resetF.getLsbD 4 }
  sp := 0xFFFE
  pc := 0x0100
  ime := cfg.resetIme
  mem := cfg.ramInit
  run := .running
  cfg := cfg

/-- The state right after reset under R7's defaults (R346; log entries 2, 3, 6). -/
def State.reset : State := State.resetWith defaultConfig

end Sys2Proof.Machine
end

