-- ==== Sys2Proof/Machine/Flags.lean ====
section
/-! DEFINITION. The flag unit: packing (10_state.md R29), the predicates (R30, R32), and every result and
flag computation of the arithmetic, logic, rotate, shift and bit instructions. -/

namespace Sys2Proof.Machine

/-- A bit as a byte: 0 or 1. -/
def bitByte (b : Bool) : Byte := if b then 1 else 0

/-! ## The flag byte F -/

/-- `pack()` (R29). -/
def packFlags (f : Flags) : Byte :=
  (bitByte f.z <<< 7) ||| (bitByte f.n <<< 6) ||| (bitByte f.h <<< 5) ||| (bitByte f.c <<< 4)

/-- `unpack(b)` (R29): bits 3 to 0 are discarded. -/
def unpackFlags (b : Byte) : Flags :=
  { z := b.getLsbD 7, n := b.getLsbD 6, h := b.getLsbD 5, c := b.getLsbD 4 }

/-! ## The predicates of R30 -/

/-- `zero(result)`. -/
def isZero (r : Byte) : Bool := decide (r = 0)

/-- `half_carry_add(a,b)`. -/
def halfCarryAdd (a b : Byte) : Bool := decide ((a &&& 0xF).toNat + (b &&& 0xF).toNat > 0xF)

/-- `half_carry_sub(a,b)`. -/
def halfCarrySub (a b : Byte) : Bool := decide ((a &&& 0xF).toNat < (b &&& 0xF).toNat)

/-- `carry_add(a,b)`. -/
def carryAdd (a b : Byte) : Bool := decide (a.toNat + b.toNat > 0xFF)

/-- `carry_sub(a,b)`. -/
def carrySub (a b : Byte) : Bool := decide (a.toNat < b.toNat)

/-! ## The three-operand and 16-bit predicates of R32 -/

/-- `half_carry_add3(a,b,c)`. -/
def halfCarryAdd3 (a b : Byte) (c : Bool) : Bool :=
  decide ((a &&& 0xF).toNat + (b &&& 0xF).toNat + c.toNat > 0xF)

/-- `carry_add3(a,b,c)`. -/
def carryAdd3 (a b : Byte) (c : Bool) : Bool := decide (a.toNat + b.toNat + c.toNat > 0xFF)

/-- `half_carry_sub3(a,b,c)`. -/
def halfCarrySub3 (a b : Byte) (c : Bool) : Bool :=
  decide ((a &&& 0xF).toNat < (b &&& 0xF).toNat + c.toNat)

/-- `carry_sub3(a,b,c)`. -/
def carrySub3 (a b : Byte) (c : Bool) : Bool := decide (a.toNat < b.toNat + c.toNat)

/-- `half_carry_add16(x,y)`: the carry out of bit 11. -/
def halfCarryAdd16 (x y : Word) : Bool := decide ((x &&& 0xFFF).toNat + (y &&& 0xFFF).toNat > 0xFFF)

/-- `carry_add16(x,y)`: the carry out of bit 15. -/
def carryAdd16 (x y : Word) : Bool := decide (x.toNat + y.toNat > 0xFFFF)

/-! ## Results with their flags -/

/-- An 8-bit result and the flags after the instruction. -/
structure Result8 where
  value : Byte
  flags : Flags
deriving DecidableEq, Repr

/-- ADD (42_alu8.md R140). -/
def addResult (a b : Byte) : Result8 :=
  { value := a + b,
    flags := { z := isZero (a + b), n := false, h := halfCarryAdd a b, c := carryAdd a b } }

/-- ADC (R143). -/
def adcResult (a b : Byte) (c : Bool) : Result8 :=
  { value := a + b + bitByte c,
    flags := { z := isZero (a + b + bitByte c), n := false, h := halfCarryAdd3 a b c,
               c := carryAdd3 a b c } }

/-- SUB, and the flags of CP (R146, R161). -/
def subResult (a b : Byte) : Result8 :=
  { value := a - b,
    flags := { z := isZero (a - b), n := true, h := halfCarrySub a b, c := carrySub a b } }

/-- SBC (R149). -/
def sbcResult (a b : Byte) (c : Bool) : Result8 :=
  { value := a - b - bitByte c,
    flags := { z := isZero (a - b - bitByte c), n := true, h := halfCarrySub3 a b c,
               c := carrySub3 a b c } }

/-- AND (R152): flags `Z 0 1 0`. -/
def andResult (a b : Byte) : Result8 :=
  { value := a &&& b, flags := { z := isZero (a &&& b), n := false, h := true, c := false } }

/-- XOR (R155): flags `Z 0 0 0`. -/
def xorResult (a b : Byte) : Result8 :=
  { value := a ^^^ b, flags := { z := isZero (a ^^^ b), n := false, h := false, c := false } }

/-- OR (R158): flags `Z 0 0 0`. -/
def orResult (a b : Byte) : Result8 :=
  { value := a ||| b, flags := { z := isZero (a ||| b), n := false, h := false, c := false } }

/-- CP (R161): A is kept, the flags are those of SUB. -/
def cpResult (a b : Byte) : Result8 := { value := a, flags := (subResult a b).flags }

/-- What A and the flags become under an accumulator operation: `a` is A, `b` the operand, `c` the carry
flag before. -/
def aluResult (op : AluOp) (a b : Byte) (c : Bool) : Result8 :=
  match op with
  | .add => addResult a b
  | .adc => adcResult a b c
  | .sub => subResult a b
  | .sbc => sbcResult a b c
  | .and => andResult a b
  | .xor => xorResult a b
  | .or => orResult a b
  | .cp => cpResult a b

/-- INC of an 8-bit operand (R164): flags `Z 0 H -`. -/
def incResult (v : Byte) (f : Flags) : Result8 :=
  { value := v + 1, flags := { z := isZero (v + 1), n := false, h := halfCarryAdd v 1, c := f.c } }

/-- DEC of an 8-bit operand (R166): flags `Z 1 H -`. -/
def decResult (v : Byte) (f : Flags) : Result8 :=
  { value := v - 1, flags := { z := isZero (v - 1), n := true, h := halfCarrySub v 1, c := f.c } }

/-- DAA's correction to the low digit (R168). -/
def daaLow (a : Byte) (f : Flags) : Bool := f.h || (!f.n && decide ((a &&& 0x0F).toNat > 0x09))

/-- DAA's correction to the high digit (R168); after it the carry flag is set. -/
def daaHigh (a : Byte) (f : Flags) : Bool := f.c || (!f.n && decide (a.toNat > 0x99))

/-- DAA's `corr` (R168). -/
def daaCorrection (a : Byte) (f : Flags) : Byte :=
  (if daaLow a f then 0x06 else 0x00) ||| (if daaHigh a f then 0x60 else 0x00)

/-- DAA (R168): flags `Z - 0 C`. Both tests use A before any correction. -/
def daaResult (a : Byte) (f : Flags) : Result8 :=
  let r := if f.n then a - daaCorrection a f else a + daaCorrection a f
  { value := r, flags := { z := isZero r, n := f.n, h := false, c := daaHigh a f } }

/-- The result of a rotate or shift and the bit that goes to the carry flag (44_rotate_shift_bit.md R194 to
R208): `v` the operand, `c` the carry flag before. -/
def rotateBits (op : RotOp) (v : Byte) (c : Bool) : Byte × Bool :=
  match op with
  | .rlc => ((v <<< 1) ||| bitByte (v.getLsbD 7), v.getLsbD 7)
  | .rrc => ((v >>> 1) ||| (bitByte (v.getLsbD 0) <<< 7), v.getLsbD 0)
  | .rl => ((v <<< 1) ||| bitByte c, v.getLsbD 7)
  | .rr => ((v >>> 1) ||| (bitByte c <<< 7), v.getLsbD 0)
  | .sla => (v <<< 1, v.getLsbD 7)
  | .sra => ((v >>> 1) ||| (v &&& 0x80), v.getLsbD 0)
  | .swap => ((v <<< 4) ||| (v >>> 4), false)
  | .srl => (v >>> 1, v.getLsbD 0)

/-- An extended-table rotate or shift (R194 to R209): flags `Z 0 0 C`. -/
def rotateResult (op : RotOp) (v : Byte) (c : Bool) : Result8 :=
  { value := (rotateBits op v c).1,
    flags := { z := isZero (rotateBits op v c).1, n := false, h := false, c := (rotateBits op v c).2 } }

/-- An accumulator rotate (R190 to R193): flags `0 0 0 C`. -/
def rotateAResult (op : RotOp) (v : Byte) (c : Bool) : Result8 :=
  { value := (rotateBits op v c).1,
    flags := { z := false, n := false, h := false, c := (rotateBits op v c).2 } }

/-- BIT (R210): flags `Z 0 1 -`. -/
def bitFlags (b : Fin 8) (v : Byte) (f : Flags) : Flags :=
  { z := !v.getLsbD b.val, n := false, h := true, c := f.c }

/-- `1 << b`. -/
def bitMask (b : Fin 8) : Byte := 1 <<< b.val

/-- ADD HL,r16 (43_alu16.md R180): flags `- 0 H C`. -/
def addHlFlags (x y : Word) (f : Flags) : Flags :=
  { z := f.z, n := false, h := halfCarryAdd16 x y, c := carryAdd16 x y }

/-- ADD SP,e8 and LD HL,SP+e8 (R183, 41_load16_stack.md R135): flags `0 0 H C`, the carries of the unsigned
addition of the operand byte to the low byte of SP. -/
def spOffsetFlags (sp : Word) (n : Byte) : Flags :=
  { z := false, n := false, h := halfCarryAdd (loByte sp) n, c := carryAdd (loByte sp) n }

end Sys2Proof.Machine
end

