-- ==== Sys2Proof/Machine/Ops.lean ====
section
/-! DEFINITION. The shared operations over the state: mutable storage, the memory bus (20_memory.md), the
stack primitives, taking a fault (60_exceptions.md R306, R307), fetching an instruction (30_encoding.md
R80), and placing instruction bytes. An operation that can fault answers `Except FaultCause`. -/

namespace Sys2Proof

/-! ## Mutable storage as a canonical list -/

/-- The byte at an address: 0x00 where the list has no entry (log entry 2). -/
def Memory.read (m : Memory) (a : Nat) : Byte :=
  match m with
  | [] => 0
  | (k, v) :: m => if k = a then v else Memory.read m a

/-- Store a byte, keeping the canonical form: storing 0x00 removes the entry. -/
def Memory.write (m : Memory) (a : Nat) (v : Byte) : Memory :=
  match m with
  | [] => if v = 0 then [] else [(a, v)]
  | (k, x) :: m =>
    if a < k then (if v = 0 then (k, x) :: m else (a, v) :: (k, x) :: m)
    else if a = k then (if v = 0 then m else (a, v) :: m)
    else (k, x) :: Memory.write m a v

/-- The canonical form from address `lo` on: addresses strictly rising, none below `lo`, no 0x00 listed. -/
def Memory.wfFrom (lo : Nat) (m : Memory) : Bool :=
  match m with
  | [] => true
  | (k, v) :: m => decide (lo ≤ k) && v != 0 && Memory.wfFrom (k + 1) m

/-- The canonical form, so that equal contents are equal lists. -/
def Memory.wf (m : Memory) : Bool := Memory.wfFrom 0 m

/-- The addresses that have a storage cell (10_state.md R36): LOW-RAM and HIGH-RAM/IO. -/
def isMutable (a : Nat) : Bool := decide (a < 0x100) || (decide (0x8000 ≤ a) && decide (a < 0xFFFF))

/-- Only addresses that have a storage cell are listed. -/
def Memory.inStorage (m : Memory) : Bool := m.all fun cell => isMutable cell.1

end Sys2Proof

namespace Sys2Proof.Machine

/-! ## Updates of one field -/

def State.setRegs (s : State) (r : Regs) : State := { s with regs := r }
def State.setA (s : State) (v : Byte) : State := { s with regs := { s.regs with a := v } }
def State.setFlags (s : State) (f : Flags) : State := { s with flags := f }
def State.setSp (s : State) (v : Word) : State := { s with sp := v }
/-- `PC <- v`: the explicit write of a control transfer, or `mod16(pc + len)` (10_state.md R27). -/
def State.setPc (s : State) (v : Word) : State := { s with pc := v }
def State.setIme (s : State) (v : Bool) : State := { s with ime := v }
def State.setMem (s : State) (m : Memory) : State := { s with mem := m }
def State.setRun (s : State) (r : RunState) : State := { s with run := r }

/-! ## Taking a fault -/

/-- Take a fault (R306): RUN becomes `faulted` with the kind, its info, and the address of the
instruction's first byte. Nothing else changes (R307), so this is applied to the state the step began
with. -/
def State.raise (s : State) (cause : FaultCause) : State := s.setRun (.faulted cause s.pc)

/-- End an instruction begun in `s`: its new state, or the fault its first faulting access raises, with
everything it had written undone (R307, R309). -/
def complete (s : State) (r : Except FaultCause State) : Result :=
  match r with
  | .ok t => .next t
  | .error cause => .next (s.raise cause)

/-! ## The memory bus -/

/-- The four regions of 20_memory.md R51. -/
inductive Region where
  | lowRam
  | rom
  | highRam
  | latch
deriving DecidableEq, Repr

/-- Region decode (R51). -/
def regionOf (a : Word) : Region :=
  if a.toNat < 0x100 then .lowRam
  else if a.toNat < 0x8000 then .rom
  else if a.toNat < 0xFFFF then .highRam
  else .latch

/-- `LATCH_WRITE(v)` (R55), read from its truth table. -/
def latchBit (cfg : Config) (v : Byte) : Bool := cfg.latchWrite.getLsbD v.toNat

/-- `zext_8(IME)`: what a bus read of the latch returns (R55). -/
def latchByte (ime : Bool) : Byte := if ime then 1 else 0

/-- `MemRead(addr, 1)` (R56). -/
def busRead (s : State) (a : Word) : Except FaultCause Byte :=
  match regionOf a with
  | .lowRam => .ok (s.mem.read a.toNat)
  | .rom =>
    match s.cfg.image[a.toNat - 0x100]? with
    | some v => .ok v
    | none => .error (.configError a)
  | .highRam => .ok (s.mem.read a.toNat)
  | .latch => .ok (latchByte s.ime)

/-- `MemWrite(addr, 1, v)` (R57). -/
def busWrite (s : State) (a : Word) (v : Byte) : Except FaultCause State :=
  match regionOf a with
  | .lowRam => .ok (s.setMem (s.mem.write a.toNat v))
  | .rom =>
    match s.cfg.romWrite with
    | .addressError => .error (.addressError a)
    | .ignore => .ok s
  | .highRam => .ok (s.setMem (s.mem.write a.toNat v))
  | .latch => .ok (s.setIme (latchBit s.cfg v))

/-- `MemRead(addr, 2)` (R58): the low byte at `addr`, then the high byte at `mod16(addr + 1)`. -/
def readWord (s : State) (a : Word) : Except FaultCause Word :=
  (busRead s a).bind fun lo => (busRead s (a + 1)).bind fun hi => .ok (wordOf hi lo)

/-- `MemWrite(addr, 2, v)` (R59): the low byte at `addr`, then the high byte at `mod16(addr + 1)`. -/
def writeWord (s : State) (a : Word) (v : Word) : Except FaultCause State :=
  (busWrite s a (loByte v)).bind fun t => busWrite t (a + 1) (hiByte v)

/-! ## The stack primitives -/

/-- `push16(v)` (41_load16_stack.md R130). -/
def push16 (s : State) (v : Word) : Except FaultCause State :=
  (writeWord s (s.sp - 2) v).bind fun t => .ok (t.setSp (s.sp - 2))

/-- `pop16()` (R131): the popped word, and the state with SP moved. -/
def pop16 (s : State) : Except FaultCause (Word × State) :=
  (readWord s s.sp).bind fun v => .ok (v, s.setSp (s.sp + 2))

/-! ## Fetching an instruction -/

/-- Whether an opcode byte is in `ABSENT_PRIMARY`. STOP (0x10) and HALT (0x76) are members exactly under
`HALT_STOP_POLICY = decode_error` (46_system.md R243, R244; log entry 7). -/
def primaryAbsent (cfg : Config) (op : Byte) : Bool :=
  if op = 0x10 ∨ op = 0x76 then decide (cfg.haltStop = .decodeError) else cfg.absentPrimary.contains op

/-- Whether a second byte is in `ABSENT_EXTENDED`. -/
def extendedAbsent (cfg : Config) (op2 : Byte) : Bool := cfg.absentExtended.contains op2

/-- What R94 requires of the absent sets, and R343 of `RESET_F`; and `RAM_INIT` is in canonical form. -/
def configWf (cfg : Config) : Bool :=
  cfg.absentPrimary.contains 0xFF && !cfg.absentPrimary.contains 0xAF &&
    !cfg.absentPrimary.contains 0xC3 && !cfg.absentPrimary.contains 0xCB &&
    cfg.resetF.extractLsb' 0 4 == 0 && cfg.ramInit.wf && cfg.ramInit.inStorage

/-- The fetch and decode of a step (30_encoding.md R80), in the order of 60_exceptions.md R309: the opcode
byte, its absence, the second opcode byte and its absence, the operand bytes. -/
def fetch (s : State) : Except FaultCause Instr :=
  (busRead s s.pc).bind fun op =>
    if primaryAbsent s.cfg op then .error (.decodeError op)
    else
      match primaryEntry op with
      | .op i => .ok i
      | .opD8 mk => (busRead s (s.pc + 1)).bind fun n => .ok (mk n)
      | .opD16 mk => (readWord s (s.pc + 1)).bind fun nn => .ok (mk nn)
      | .cbOp =>
        (busRead s (s.pc + 1)).bind fun op2 =>
          if extendedAbsent s.cfg op2 then .error (.decodeError op2) else .ok (extendedEntry op2)

/-! ## Placing bytes from outside (the load of a program, log entry 3) -/

/-- The image with the byte at an offset replaced; a shorter image is padded with 0x00. -/
def setImageByte (image : List Byte) (offset : Nat) (v : Byte) : List Byte :=
  match image, offset with
  | [], 0 => [v]
  | [], n + 1 => 0 :: setImageByte [] n v
  | _ :: rest, 0 => v :: rest
  | x :: rest, n + 1 => x :: setImageByte rest n v

/-- Place a byte where a fetch from `a` reads it: in the image for a ROM address, else in storage, or bit 0
in the latch. -/
def placeByte (s : State) (a : Word) (v : Byte) : State :=
  match regionOf a with
  | .lowRam => s.setMem (s.mem.write a.toNat v)
  | .rom => { s with cfg := { s.cfg with image := setImageByte s.cfg.image (a.toNat - 0x100) v } }
  | .highRam => s.setMem (s.mem.write a.toNat v)
  | .latch => s.setIme (v.getLsbD 0)

/-- Place bytes at consecutive addresses from `a`. -/
def placeBytes (s : State) (a : Word) (bytes : List Byte) : State :=
  match bytes with
  | [] => s
  | v :: rest => placeBytes (placeByte s a v) (a + 1) rest

end Sys2Proof.Machine
end

