-- ==== Sys2Proof/Machine/Operands.lean ====
section
/-! DEFINITION. Every operand form: the 8-bit selector, the register pairs, the stack selector, the branch
condition, and the addresses computed from an operand byte (30_encoding.md R84 to R88). -/

namespace Sys2Proof.Machine

/-- Read an 8-bit register. -/
def getReg8 (s : State) (r : Reg8) : Byte :=
  match r with
  | .b => s.regs.b
  | .c => s.regs.c
  | .d => s.regs.d
  | .e => s.regs.e
  | .h => s.regs.h
  | .l => s.regs.l
  | .a => s.regs.a

/-- The register file with one register replaced. -/
def regsWith (g : Regs) (r : Reg8) (v : Byte) : Regs :=
  match r with
  | .b => { g with b := v }
  | .c => { g with c := v }
  | .d => { g with d := v }
  | .e => { g with e := v }
  | .h => { g with h := v }
  | .l => { g with l := v }
  | .a => { g with a := v }

/-- Write an 8-bit register. -/
def setReg8 (s : State) (r : Reg8) (v : Byte) : State := s.setRegs (regsWith s.regs r v)

/-- Read BC, DE, HL (`hi ++ lo`, 10_state.md R23) or SP. -/
def getReg16 (s : State) (r : Reg16) : Word :=
  match r with
  | .bc => wordOf s.regs.b s.regs.c
  | .de => wordOf s.regs.d s.regs.e
  | .hl => wordOf s.regs.h s.regs.l
  | .sp => s.sp

/-- Write BC, DE, HL (`hi <- v[15:8]`, `lo <- v[7:0]`, R23) or SP. -/
def setReg16 (s : State) (r : Reg16) (v : Word) : State :=
  match r with
  | .bc => s.setRegs { s.regs with b := hiByte v, c := loByte v }
  | .de => s.setRegs { s.regs with d := hiByte v, e := loByte v }
  | .hl => s.setRegs { s.regs with h := hiByte v, l := loByte v }
  | .sp => s.setSp v

/-- What PUSH stores: a pair, or `A ++ F` (R24). -/
def getStk16 (s : State) (r : Stk16) : Word :=
  match r with
  | .bc => getReg16 s .bc
  | .de => getReg16 s .de
  | .hl => getReg16 s .hl
  | .af => wordOf s.regs.a (packFlags s.flags)

/-- Where POP puts the word: a pair, or A and the unpacked flags (R24). -/
def setStk16 (s : State) (r : Stk16) (v : Word) : State :=
  match r with
  | .bc => setReg16 s .bc v
  | .de => setReg16 s .de v
  | .hl => setReg16 s .hl v
  | .af => (s.setA (hiByte v)).setFlags (unpackFlags (loByte v))

/-- Read `r8[i]` (R86): a register, or `MemRead(HL, 1)`. -/
def readOpd8 (s : State) (o : Opd8) : Except FaultCause Byte :=
  match o with
  | .reg r => .ok (getReg8 s r)
  | .atHl => busRead s (getReg16 s .hl)

/-- `r8[i] <- v` (R86): a register write, or `MemWrite(HL, 1, v)`. -/
def writeOpd8 (s : State) (o : Opd8) (v : Byte) : Except FaultCause State :=
  match o with
  | .reg r => .ok (setReg8 s r v)
  | .atHl => busWrite s (getReg16 s .hl) v

/-- `cond(cc)` (45_control.md R220). -/
def condHolds (f : Flags) (cc : Cond) : Bool :=
  match cc with
  | .nz => !f.z
  | .z => f.z
  | .nc => !f.c
  | .c => f.c

/-- `0xFF00 + n`, the a8 address (R84). -/
def highPage (n : Byte) : Word := 0xFF00 + n.setWidth 16

/-- `sext_16(n)`, the e8 displacement (00_scope.md R9, R84). -/
def sext16 (n : Byte) : Word := n.signExtend 16

end Sys2Proof.Machine
end

