-- ==== Sys2Proof/Machine/Alu16.lean ====
section
/-! DEFINITION. The 16-bit arithmetic instructions (43_alu16.md R180 to R183). -/

namespace Sys2Proof.Machine

/-- `ADD HL,r16` (R180). -/
def addHl (r : Reg16) (s : State) : Result :=
  .next (((setReg16 s .hl (getReg16 s .hl + getReg16 s r)).setFlags
    (addHlFlags (getReg16 s .hl) (getReg16 s r) s.flags)).setPc (s.pc + 1))

/-- `INC r16` (R181): no flag is written. -/
def inc16 (r : Reg16) (s : State) : Result := .next ((setReg16 s r (getReg16 s r + 1)).setPc (s.pc + 1))

/-- `DEC r16` (R182): no flag is written. -/
def dec16 (r : Reg16) (s : State) : Result := .next ((setReg16 s r (getReg16 s r - 1)).setPc (s.pc + 1))

/-- `ADD SP,e8` (R183). -/
def addSpOffset (n : Byte) (s : State) : Result :=
  .next (((s.setSp (s.sp + sext16 n)).setFlags (spOffsetFlags s.sp n)).setPc (s.pc + 2))

/-- `INC BC` (R181). -/
def execIncBc (s : State) : Result := inc16 .bc s

/-- `ADD HL,BC` (R180). -/
def execAddHlBc (s : State) : Result := addHl .bc s

/-- `DEC BC` (R182). -/
def execDecBc (s : State) : Result := dec16 .bc s

/-- `INC DE` (R181). -/
def execIncDe (s : State) : Result := inc16 .de s

/-- `ADD HL,DE` (R180). -/
def execAddHlDe (s : State) : Result := addHl .de s

/-- `DEC DE` (R182). -/
def execDecDe (s : State) : Result := dec16 .de s

/-- `INC HL` (R181). -/
def execIncHl (s : State) : Result := inc16 .hl s

/-- `ADD HL,HL` (R180). -/
def execAddHlHl (s : State) : Result := addHl .hl s

/-- `DEC HL` (R182). -/
def execDecHl (s : State) : Result := dec16 .hl s

/-- `INC SP` (R181). -/
def execIncSp (s : State) : Result := inc16 .sp s

/-- `ADD HL,SP` (R180). -/
def execAddHlSp (s : State) : Result := addHl .sp s

/-- `DEC SP` (R182). -/
def execDecSp (s : State) : Result := dec16 .sp s

/-- `ADD SP,e8` (R183). -/
def execAddSpE8 (n : Byte) (s : State) : Result := addSpOffset n s

end Sys2Proof.Machine
end

