-- ==== Sys2Proof/Machine/Alu8.lean ====
section
/-! DEFINITION. The 8-bit arithmetic and logic instructions (42_alu8.md R140 to R171). -/

namespace Sys2Proof.Machine

/-- A and the flags after an accumulator operation on the operand `b`; the PC moves by `len`. -/
def aluStep (op : AluOp) (b : Byte) (len : Word) (s : State) : State :=
  ((s.setA (aluResult op s.regs.a b s.flags.c).value).setFlags
    (aluResult op s.regs.a b s.flags.c).flags).setPc (s.pc + len)

/-- An accumulator operation on `r8[z]` (the r8 and (HL) forms of R140 to R162). -/
def aluOpd (op : AluOp) (src : Opd8) (s : State) : Result :=
  complete s ((readOpd8 s src).bind fun b => .ok (aluStep op b 1 s))

/-- An accumulator operation on d8 (the d8 forms of R142 to R163). -/
def aluImm (op : AluOp) (n : Byte) (s : State) : Result := .next (aluStep op n 2 s)

/-- `INC r8` and `INC (HL)` (R164, R165). -/
def inc8 (o : Opd8) (s : State) : Result :=
  complete s ((readOpd8 s o).bind fun v =>
    (writeOpd8 s o (incResult v s.flags).value).bind fun t =>
      .ok ((t.setFlags (incResult v s.flags).flags).setPc (s.pc + 1)))

/-- `DEC r8` and `DEC (HL)` (R166, R167). -/
def dec8 (o : Opd8) (s : State) : Result :=
  complete s ((readOpd8 s o).bind fun v =>
    (writeOpd8 s o (decResult v s.flags).value).bind fun t =>
      .ok ((t.setFlags (decResult v s.flags).flags).setPc (s.pc + 1)))

/-- `DAA` (R168). -/
def decimalAdjust (s : State) : Result :=
  .next (((s.setA (daaResult s.regs.a s.flags).value).setFlags
    (daaResult s.regs.a s.flags).flags).setPc (s.pc + 1))

/-- `CPL` (R169): flags `- 1 1 -`. -/
def complementA (s : State) : Result :=
  .next (((s.setA (s.regs.a ^^^ 0xFF)).setFlags { s.flags with n := true, h := true }).setPc (s.pc + 1))

/-- `SCF` (R170): flags `- 0 0 1`. -/
def setCarry (s : State) : Result :=
  .next ((s.setFlags { s.flags with n := false, h := false, c := true }).setPc (s.pc + 1))

/-- `CCF` (R171): flags `- 0 0 C`, C the complement of the old carry. -/
def complementCarry (s : State) : Result :=
  .next ((s.setFlags { s.flags with n := false, h := false, c := !s.flags.c }).setPc (s.pc + 1))

/-- `INC B` (R164). -/
def execIncB (s : State) : Result := inc8 (.reg .b) s

/-- `DEC B` (R166). -/
def execDecB (s : State) : Result := dec8 (.reg .b) s

/-- `INC C` (R164). -/
def execIncC (s : State) : Result := inc8 (.reg .c) s

/-- `DEC C` (R166). -/
def execDecC (s : State) : Result := dec8 (.reg .c) s

/-- `INC D` (R164). -/
def execIncD (s : State) : Result := inc8 (.reg .d) s

/-- `DEC D` (R166). -/
def execDecD (s : State) : Result := dec8 (.reg .d) s

/-- `INC E` (R164). -/
def execIncE (s : State) : Result := inc8 (.reg .e) s

/-- `DEC E` (R166). -/
def execDecE (s : State) : Result := dec8 (.reg .e) s

/-- `INC H` (R164). -/
def execIncH (s : State) : Result := inc8 (.reg .h) s

/-- `DEC H` (R166). -/
def execDecH (s : State) : Result := dec8 (.reg .h) s

/-- `DAA` (R168). -/
def execDaa (s : State) : Result := decimalAdjust s

/-- `INC L` (R164). -/
def execIncL (s : State) : Result := inc8 (.reg .l) s

/-- `DEC L` (R166). -/
def execDecL (s : State) : Result := dec8 (.reg .l) s

/-- `CPL` (R169). -/
def execCpl (s : State) : Result := complementA s

/-- `INC (HL)` (R165). -/
def execIncAtHl (s : State) : Result := inc8 .atHl s

/-- `DEC (HL)` (R167). -/
def execDecAtHl (s : State) : Result := dec8 .atHl s

/-- `SCF` (R170). -/
def execScf (s : State) : Result := setCarry s

/-- `INC A` (R164). -/
def execIncA (s : State) : Result := inc8 (.reg .a) s

/-- `DEC A` (R166). -/
def execDecA (s : State) : Result := dec8 (.reg .a) s

/-- `CCF` (R171). -/
def execCcf (s : State) : Result := complementCarry s

/-- `ADD A,B` (R140). -/
def execAddAB (s : State) : Result := aluOpd .add (.reg .b) s

/-- `ADD A,C` (R140). -/
def execAddAC (s : State) : Result := aluOpd .add (.reg .c) s

/-- `ADD A,D` (R140). -/
def execAddAD (s : State) : Result := aluOpd .add (.reg .d) s

/-- `ADD A,E` (R140). -/
def execAddAE (s : State) : Result := aluOpd .add (.reg .e) s

/-- `ADD A,H` (R140). -/
def execAddAH (s : State) : Result := aluOpd .add (.reg .h) s

/-- `ADD A,L` (R140). -/
def execAddAL (s : State) : Result := aluOpd .add (.reg .l) s

/-- `ADD A,(HL)` (R141). -/
def execAddAAtHl (s : State) : Result := aluOpd .add .atHl s

/-- `ADD A,A` (R140). -/
def execAddAA (s : State) : Result := aluOpd .add (.reg .a) s

/-- `ADC A,B` (R143). -/
def execAdcAB (s : State) : Result := aluOpd .adc (.reg .b) s

/-- `ADC A,C` (R143). -/
def execAdcAC (s : State) : Result := aluOpd .adc (.reg .c) s

/-- `ADC A,D` (R143). -/
def execAdcAD (s : State) : Result := aluOpd .adc (.reg .d) s

/-- `ADC A,E` (R143). -/
def execAdcAE (s : State) : Result := aluOpd .adc (.reg .e) s

/-- `ADC A,H` (R143). -/
def execAdcAH (s : State) : Result := aluOpd .adc (.reg .h) s

/-- `ADC A,L` (R143). -/
def execAdcAL (s : State) : Result := aluOpd .adc (.reg .l) s

/-- `ADC A,(HL)` (R144). -/
def execAdcAAtHl (s : State) : Result := aluOpd .adc .atHl s

/-- `ADC A,A` (R143). -/
def execAdcAA (s : State) : Result := aluOpd .adc (.reg .a) s

/-- `SUB B` (R146). -/
def execSubB (s : State) : Result := aluOpd .sub (.reg .b) s

/-- `SUB C` (R146). -/
def execSubC (s : State) : Result := aluOpd .sub (.reg .c) s

/-- `SUB D` (R146). -/
def execSubD (s : State) : Result := aluOpd .sub (.reg .d) s

/-- `SUB E` (R146). -/
def execSubE (s : State) : Result := aluOpd .sub (.reg .e) s

/-- `SUB H` (R146). -/
def execSubH (s : State) : Result := aluOpd .sub (.reg .h) s

/-- `SUB L` (R146). -/
def execSubL (s : State) : Result := aluOpd .sub (.reg .l) s

/-- `SUB (HL)` (R147). -/
def execSubAtHl (s : State) : Result := aluOpd .sub .atHl s

/-- `SUB A` (R146). -/
def execSubA (s : State) : Result := aluOpd .sub (.reg .a) s

/-- `SBC A,B` (R149). -/
def execSbcAB (s : State) : Result := aluOpd .sbc (.reg .b) s

/-- `SBC A,C` (R149). -/
def execSbcAC (s : State) : Result := aluOpd .sbc (.reg .c) s

/-- `SBC A,D` (R149). -/
def execSbcAD (s : State) : Result := aluOpd .sbc (.reg .d) s

/-- `SBC A,E` (R149). -/
def execSbcAE (s : State) : Result := aluOpd .sbc (.reg .e) s

/-- `SBC A,H` (R149). -/
def execSbcAH (s : State) : Result := aluOpd .sbc (.reg .h) s

/-- `SBC A,L` (R149). -/
def execSbcAL (s : State) : Result := aluOpd .sbc (.reg .l) s

/-- `SBC A,(HL)` (R150). -/
def execSbcAAtHl (s : State) : Result := aluOpd .sbc .atHl s

/-- `SBC A,A` (R149). -/
def execSbcAA (s : State) : Result := aluOpd .sbc (.reg .a) s

/-- `AND B` (R152). -/
def execAndB (s : State) : Result := aluOpd .and (.reg .b) s

/-- `AND C` (R152). -/
def execAndC (s : State) : Result := aluOpd .and (.reg .c) s

/-- `AND D` (R152). -/
def execAndD (s : State) : Result := aluOpd .and (.reg .d) s

/-- `AND E` (R152). -/
def execAndE (s : State) : Result := aluOpd .and (.reg .e) s

/-- `AND H` (R152). -/
def execAndH (s : State) : Result := aluOpd .and (.reg .h) s

/-- `AND L` (R152). -/
def execAndL (s : State) : Result := aluOpd .and (.reg .l) s

/-- `AND (HL)` (R153). -/
def execAndAtHl (s : State) : Result := aluOpd .and .atHl s

/-- `AND A` (R152). -/
def execAndA (s : State) : Result := aluOpd .and (.reg .a) s

/-- `XOR B` (R155). -/
def execXorB (s : State) : Result := aluOpd .xor (.reg .b) s

/-- `XOR C` (R155). -/
def execXorC (s : State) : Result := aluOpd .xor (.reg .c) s

/-- `XOR D` (R155). -/
def execXorD (s : State) : Result := aluOpd .xor (.reg .d) s

/-- `XOR E` (R155). -/
def execXorE (s : State) : Result := aluOpd .xor (.reg .e) s

/-- `XOR H` (R155). -/
def execXorH (s : State) : Result := aluOpd .xor (.reg .h) s

/-- `XOR L` (R155). -/
def execXorL (s : State) : Result := aluOpd .xor (.reg .l) s

/-- `XOR (HL)` (R156). -/
def execXorAtHl (s : State) : Result := aluOpd .xor .atHl s

/-- `XOR A` (R155). -/
def execXorA (s : State) : Result := aluOpd .xor (.reg .a) s

/-- `OR B` (R158). -/
def execOrB (s : State) : Result := aluOpd .or (.reg .b) s

/-- `OR C` (R158). -/
def execOrC (s : State) : Result := aluOpd .or (.reg .c) s

/-- `OR D` (R158). -/
def execOrD (s : State) : Result := aluOpd .or (.reg .d) s

/-- `OR E` (R158). -/
def execOrE (s : State) : Result := aluOpd .or (.reg .e) s

/-- `OR H` (R158). -/
def execOrH (s : State) : Result := aluOpd .or (.reg .h) s

/-- `OR L` (R158). -/
def execOrL (s : State) : Result := aluOpd .or (.reg .l) s

/-- `OR (HL)` (R159). -/
def execOrAtHl (s : State) : Result := aluOpd .or .atHl s

/-- `OR A` (R158). -/
def execOrA (s : State) : Result := aluOpd .or (.reg .a) s

/-- `CP B` (R161). -/
def execCpB (s : State) : Result := aluOpd .cp (.reg .b) s

/-- `CP C` (R161). -/
def execCpC (s : State) : Result := aluOpd .cp (.reg .c) s

/-- `CP D` (R161). -/
def execCpD (s : State) : Result := aluOpd .cp (.reg .d) s

/-- `CP E` (R161). -/
def execCpE (s : State) : Result := aluOpd .cp (.reg .e) s

/-- `CP H` (R161). -/
def execCpH (s : State) : Result := aluOpd .cp (.reg .h) s

/-- `CP L` (R161). -/
def execCpL (s : State) : Result := aluOpd .cp (.reg .l) s

/-- `CP (HL)` (R162). -/
def execCpAtHl (s : State) : Result := aluOpd .cp .atHl s

/-- `CP A` (R161). -/
def execCpA (s : State) : Result := aluOpd .cp (.reg .a) s

/-- `ADD A,d8` (R142). -/
def execAddAD8 (n : Byte) (s : State) : Result := aluImm .add n s

/-- `ADC A,d8` (R145). -/
def execAdcAD8 (n : Byte) (s : State) : Result := aluImm .adc n s

/-- `SUB d8` (R148). -/
def execSubD8 (n : Byte) (s : State) : Result := aluImm .sub n s

/-- `SBC A,d8` (R151). -/
def execSbcAD8 (n : Byte) (s : State) : Result := aluImm .sbc n s

/-- `AND d8` (R154). -/
def execAndD8 (n : Byte) (s : State) : Result := aluImm .and n s

/-- `XOR d8` (R157). -/
def execXorD8 (n : Byte) (s : State) : Result := aluImm .xor n s

/-- `OR d8` (R160). -/
def execOrD8 (n : Byte) (s : State) : Result := aluImm .or n s

/-- `CP d8` (R163). -/
def execCpD8 (n : Byte) (s : State) : Result := aluImm .cp n s

end Sys2Proof.Machine
end

