-- ==== Sys2Proof/Machine/Control.lean ====
section
/-! DEFINITION. The control transfers (45_control.md R221 to R231). None writes a flag. The operand is
already read when the condition is tested (30_encoding.md R85). -/

namespace Sys2Proof.Machine

/-- `JP a16` (R221). -/
def jump (nn : Word) (s : State) : Result := .next (s.setPc nn)

/-- `JP cc,a16` (R222). -/
def jumpIf (cc : Cond) (nn : Word) (s : State) : Result :=
  if condHolds s.flags cc then .next (s.setPc nn) else .next (s.setPc (s.pc + 3))

/-- `JP HL` (R223): memory is not read. -/
def jumpHl (s : State) : Result := .next (s.setPc (getReg16 s .hl))

/-- `JR e8` (R224): relative to the address after the instruction. -/
def jumpRel (n : Byte) (s : State) : Result := .next (s.setPc (s.pc + 2 + sext16 n))

/-- `JR cc,e8` (R225). -/
def jumpRelIf (cc : Cond) (n : Byte) (s : State) : Result :=
  if condHolds s.flags cc then .next (s.setPc (s.pc + 2 + sext16 n)) else .next (s.setPc (s.pc + 2))

/-- `CALL a16` (R226). -/
def call (nn : Word) (s : State) : Result :=
  complete s ((push16 s (s.pc + 3)).bind fun t => .ok (t.setPc nn))

/-- `CALL cc,a16` (R231): nothing is pushed when the condition is false. -/
def callIf (cc : Cond) (nn : Word) (s : State) : Result :=
  if condHolds s.flags cc then complete s ((push16 s (s.pc + 3)).bind fun t => .ok (t.setPc nn))
  else .next (s.setPc (s.pc + 3))

/-- `RET` (R227). -/
def ret (s : State) : Result := complete s ((pop16 s).bind fun p => .ok (p.2.setPc p.1))

/-- `RET cc` (R228): the stack is not read when the condition is false. -/
def retIf (cc : Cond) (s : State) : Result :=
  if condHolds s.flags cc then complete s ((pop16 s).bind fun p => .ok (p.2.setPc p.1))
  else .next (s.setPc (s.pc + 1))

/-- `RETI` (R229): return, then set the latch. -/
def retEnable (s : State) : Result :=
  complete s ((pop16 s).bind fun p => .ok ((p.2.setPc p.1).setIme true))

/-- `RST t` (R230). -/
def restart (target : Word) (s : State) : Result :=
  complete s ((push16 s (s.pc + 1)).bind fun t => .ok (t.setPc target))

/-- `JR e8` (R224). -/
def execJrE8 (n : Byte) (s : State) : Result := jumpRel n s

/-- `JR NZ,e8` (R225). -/
def execJrNzE8 (n : Byte) (s : State) : Result := jumpRelIf .nz n s

/-- `JR Z,e8` (R225). -/
def execJrZE8 (n : Byte) (s : State) : Result := jumpRelIf .z n s

/-- `JR NC,e8` (R225). -/
def execJrNcE8 (n : Byte) (s : State) : Result := jumpRelIf .nc n s

/-- `JR C,e8` (R225). -/
def execJrCE8 (n : Byte) (s : State) : Result := jumpRelIf .c n s

/-- `RET NZ` (R228). -/
def execRetNz (s : State) : Result := retIf .nz s

/-- `JP NZ,a16` (R222). -/
def execJpNzA16 (nn : Word) (s : State) : Result := jumpIf .nz nn s

/-- `JP a16` (R221). -/
def execJpA16 (nn : Word) (s : State) : Result := jump nn s

/-- `CALL NZ,a16` (R231). -/
def execCallNzA16 (nn : Word) (s : State) : Result := callIf .nz nn s

/-- `RST 00H` (R230). -/
def execRst00 (s : State) : Result := restart 0x00 s

/-- `RET Z` (R228). -/
def execRetZ (s : State) : Result := retIf .z s

/-- `RET` (R227). -/
def execRet (s : State) : Result := ret s

/-- `JP Z,a16` (R222). -/
def execJpZA16 (nn : Word) (s : State) : Result := jumpIf .z nn s

/-- `CALL Z,a16` (R231). -/
def execCallZA16 (nn : Word) (s : State) : Result := callIf .z nn s

/-- `CALL a16` (R226). -/
def execCallA16 (nn : Word) (s : State) : Result := call nn s

/-- `RST 08H` (R230). -/
def execRst08 (s : State) : Result := restart 0x08 s

/-- `RET NC` (R228). -/
def execRetNc (s : State) : Result := retIf .nc s

/-- `JP NC,a16` (R222). -/
def execJpNcA16 (nn : Word) (s : State) : Result := jumpIf .nc nn s

/-- `CALL NC,a16` (R231). -/
def execCallNcA16 (nn : Word) (s : State) : Result := callIf .nc nn s

/-- `RST 10H` (R230). -/
def execRst10 (s : State) : Result := restart 0x10 s

/-- `RET C` (R228). -/
def execRetC (s : State) : Result := retIf .c s

/-- `RETI` (R229). -/
def execReti (s : State) : Result := retEnable s

/-- `JP C,a16` (R222). -/
def execJpCA16 (nn : Word) (s : State) : Result := jumpIf .c nn s

/-- `CALL C,a16` (R231). -/
def execCallCA16 (nn : Word) (s : State) : Result := callIf .c nn s

/-- `RST 18H` (R230). -/
def execRst18 (s : State) : Result := restart 0x18 s

/-- `RST 20H` (R230). -/
def execRst20 (s : State) : Result := restart 0x20 s

/-- `JP HL` (R223). -/
def execJpHl (s : State) : Result := jumpHl s

/-- `RST 28H` (R230). -/
def execRst28 (s : State) : Result := restart 0x28 s

/-- `RST 30H` (R230). -/
def execRst30 (s : State) : Result := restart 0x30 s

end Sys2Proof.Machine
end

