-- ==== Sys2Proof/Machine/Load16.lean ====
section
/-! DEFINITION. The 16-bit loads and the stack instructions (41_load16_stack.md R132 to R139). -/

namespace Sys2Proof.Machine

/-- `LD r16,d16` (R132). -/
def load16Imm (r : Reg16) (nn : Word) (s : State) : Result := .next ((setReg16 s r nn).setPc (s.pc + 3))

/-- `LD (a16),SP` (R133). -/
def storeSp (nn : Word) (s : State) : Result :=
  complete s ((writeWord s nn s.sp).bind fun t => .ok (t.setPc (s.pc + 3)))

/-- `LD SP,HL` (R134). -/
def loadSpHl (s : State) : Result := .next ((s.setSp (getReg16 s .hl)).setPc (s.pc + 1))

/-- `LD HL,SP+e8` (R135). -/
def loadHlSpOffset (n : Byte) (s : State) : Result :=
  .next (((setReg16 s .hl (s.sp + sext16 n)).setFlags (spOffsetFlags s.sp n)).setPc (s.pc + 2))

/-- `PUSH r16stk` (R136, R139). -/
def push (r : Stk16) (s : State) : Result :=
  complete s ((push16 s (getStk16 s r)).bind fun t => .ok (t.setPc (s.pc + 1)))

/-- `POP r16stk` (R137, R138). -/
def pop (r : Stk16) (s : State) : Result :=
  complete s ((pop16 s).bind fun p => .ok ((setStk16 p.2 r p.1).setPc (s.pc + 1)))

/-- `LD BC,d16` (R132). -/
def execLdBcD16 (nn : Word) (s : State) : Result := load16Imm .bc nn s

/-- `LD (a16),SP` (R133). -/
def execLdAtA16Sp (nn : Word) (s : State) : Result := storeSp nn s

/-- `LD DE,d16` (R132). -/
def execLdDeD16 (nn : Word) (s : State) : Result := load16Imm .de nn s

/-- `LD HL,d16` (R132). -/
def execLdHlD16 (nn : Word) (s : State) : Result := load16Imm .hl nn s

/-- `LD SP,d16` (R132). -/
def execLdSpD16 (nn : Word) (s : State) : Result := load16Imm .sp nn s

/-- `POP BC` (R137). -/
def execPopBc (s : State) : Result := pop .bc s

/-- `PUSH BC` (R136). -/
def execPushBc (s : State) : Result := push .bc s

/-- `POP DE` (R137). -/
def execPopDe (s : State) : Result := pop .de s

/-- `PUSH DE` (R136). -/
def execPushDe (s : State) : Result := push .de s

/-- `POP HL` (R137). -/
def execPopHl (s : State) : Result := pop .hl s

/-- `PUSH HL` (R136). -/
def execPushHl (s : State) : Result := push .hl s

/-- `POP AF` (R138). -/
def execPopAf (s : State) : Result := pop .af s

/-- `PUSH AF` (R139). -/
def execPushAf (s : State) : Result := push .af s

/-- `LD HL,SP+e8` (R135). -/
def execLdHlSpE8 (n : Byte) (s : State) : Result := loadHlSpOffset n s

/-- `LD SP,HL` (R134). -/
def execLdSpHl (s : State) : Result := loadSpHl s

end Sys2Proof.Machine
end

