-- ==== Sys2Proof/Machine/Load8.lean ====
section
/-! DEFINITION. The 8-bit loads (40_load8.md R100 to R118). None writes a flag. -/

namespace Sys2Proof.Machine

/-- `LD` between 8-bit operands (R100, R102, R103). -/
def load8 (dst src : Opd8) (s : State) : Result :=
  complete s ((readOpd8 s src).bind fun v => (writeOpd8 s dst v).bind fun t => .ok (t.setPc (s.pc + 1)))

/-- `LD r8,d8` and `LD (HL),d8` (R101, R104). -/
def load8Imm (dst : Opd8) (n : Byte) (s : State) : Result :=
  complete s ((writeOpd8 s dst n).bind fun t => .ok (t.setPc (s.pc + 2)))

/-- Load A from an address; `len` is the instruction's length (R105, R106, R109, R111, R113). -/
def loadA (addr : Word) (len : Word) (s : State) : Result :=
  complete s ((busRead s addr).bind fun v => .ok ((s.setA v).setPc (s.pc + len)))

/-- Store A at an address (R107, R108, R110, R112, R114). -/
def storeA (addr : Word) (len : Word) (s : State) : Result :=
  complete s ((busWrite s addr s.regs.a).bind fun t => .ok (t.setPc (s.pc + len)))

/-- Load A from HL, then move HL by `delta` (R117, R118). -/
def loadAStep (delta : Word) (s : State) : Result :=
  complete s ((busRead s (getReg16 s .hl)).bind fun v =>
    .ok ((setReg16 (s.setA v) .hl (getReg16 s .hl + delta)).setPc (s.pc + 1)))

/-- Store A at HL, then move HL by `delta` (R115, R116). -/
def storeAStep (delta : Word) (s : State) : Result :=
  complete s ((busWrite s (getReg16 s .hl) s.regs.a).bind fun t =>
    .ok ((setReg16 t .hl (getReg16 s .hl + delta)).setPc (s.pc + 1)))

/-- `LD (BC),A` (R107). -/
def execLdAtBcA (s : State) : Result := storeA (getReg16 s .bc) 1 s

/-- `LD B,d8` (R101). -/
def execLdBD8 (n : Byte) (s : State) : Result := load8Imm (.reg .b) n s

/-- `LD A,(BC)` (R105). -/
def execLdAAtBc (s : State) : Result := loadA (getReg16 s .bc) 1 s

/-- `LD C,d8` (R101). -/
def execLdCD8 (n : Byte) (s : State) : Result := load8Imm (.reg .c) n s

/-- `LD (DE),A` (R108). -/
def execLdAtDeA (s : State) : Result := storeA (getReg16 s .de) 1 s

/-- `LD D,d8` (R101). -/
def execLdDD8 (n : Byte) (s : State) : Result := load8Imm (.reg .d) n s

/-- `LD A,(DE)` (R106). -/
def execLdAAtDe (s : State) : Result := loadA (getReg16 s .de) 1 s

/-- `LD E,d8` (R101). -/
def execLdED8 (n : Byte) (s : State) : Result := load8Imm (.reg .e) n s

/-- `LD (HL+),A` (R115). -/
def execLdAtHlIncA (s : State) : Result := storeAStep 1 s

/-- `LD H,d8` (R101). -/
def execLdHD8 (n : Byte) (s : State) : Result := load8Imm (.reg .h) n s

/-- `LD A,(HL+)` (R117). -/
def execLdAAtHlInc (s : State) : Result := loadAStep 1 s

/-- `LD L,d8` (R101). -/
def execLdLD8 (n : Byte) (s : State) : Result := load8Imm (.reg .l) n s

/-- `LD (HL-),A` (R116). -/
def execLdAtHlDecA (s : State) : Result := storeAStep (-1) s

/-- `LD (HL),d8` (R104). -/
def execLdAtHlD8 (n : Byte) (s : State) : Result := load8Imm .atHl n s

/-- `LD A,(HL-)` (R118). -/
def execLdAAtHlDec (s : State) : Result := loadAStep (-1) s

/-- `LD A,d8` (R101). -/
def execLdAD8 (n : Byte) (s : State) : Result := load8Imm (.reg .a) n s

/-- `LD B,B` (R100). -/
def execLdBB (s : State) : Result := load8 (.reg .b) (.reg .b) s

/-- `LD B,C` (R100). -/
def execLdBC (s : State) : Result := load8 (.reg .b) (.reg .c) s

/-- `LD B,D` (R100). -/
def execLdBD (s : State) : Result := load8 (.reg .b) (.reg .d) s

/-- `LD B,E` (R100). -/
def execLdBE (s : State) : Result := load8 (.reg .b) (.reg .e) s

/-- `LD B,H` (R100). -/
def execLdBH (s : State) : Result := load8 (.reg .b) (.reg .h) s

/-- `LD B,L` (R100). -/
def execLdBL (s : State) : Result := load8 (.reg .b) (.reg .l) s

/-- `LD B,(HL)` (R102). -/
def execLdBAtHl (s : State) : Result := load8 (.reg .b) .atHl s

/-- `LD B,A` (R100). -/
def execLdBA (s : State) : Result := load8 (.reg .b) (.reg .a) s

/-- `LD C,B` (R100). -/
def execLdCB (s : State) : Result := load8 (.reg .c) (.reg .b) s

/-- `LD C,C` (R100). -/
def execLdCC (s : State) : Result := load8 (.reg .c) (.reg .c) s

/-- `LD C,D` (R100). -/
def execLdCD (s : State) : Result := load8 (.reg .c) (.reg .d) s

/-- `LD C,E` (R100). -/
def execLdCE (s : State) : Result := load8 (.reg .c) (.reg .e) s

/-- `LD C,H` (R100). -/
def execLdCH (s : State) : Result := load8 (.reg .c) (.reg .h) s

/-- `LD C,L` (R100). -/
def execLdCL (s : State) : Result := load8 (.reg .c) (.reg .l) s

/-- `LD C,(HL)` (R102). -/
def execLdCAtHl (s : State) : Result := load8 (.reg .c) .atHl s

/-- `LD C,A` (R100). -/
def execLdCA (s : State) : Result := load8 (.reg .c) (.reg .a) s

/-- `LD D,B` (R100). -/
def execLdDB (s : State) : Result := load8 (.reg .d) (.reg .b) s

/-- `LD D,C` (R100). -/
def execLdDC (s : State) : Result := load8 (.reg .d) (.reg .c) s

/-- `LD D,D` (R100). -/
def execLdDD (s : State) : Result := load8 (.reg .d) (.reg .d) s

/-- `LD D,E` (R100). -/
def execLdDE (s : State) : Result := load8 (.reg .d) (.reg .e) s

/-- `LD D,H` (R100). -/
def execLdDH (s : State) : Result := load8 (.reg .d) (.reg .h) s

/-- `LD D,L` (R100). -/
def execLdDL (s : State) : Result := load8 (.reg .d) (.reg .l) s

/-- `LD D,(HL)` (R102). -/
def execLdDAtHl (s : State) : Result := load8 (.reg .d) .atHl s

/-- `LD D,A` (R100). -/
def execLdDA (s : State) : Result := load8 (.reg .d) (.reg .a) s

/-- `LD E,B` (R100). -/
def execLdEB (s : State) : Result := load8 (.reg .e) (.reg .b) s

/-- `LD E,C` (R100). -/
def execLdEC (s : State) : Result := load8 (.reg .e) (.reg .c) s

/-- `LD E,D` (R100). -/
def execLdED (s : State) : Result := load8 (.reg .e) (.reg .d) s

/-- `LD E,E` (R100). -/
def execLdEE (s : State) : Result := load8 (.reg .e) (.reg .e) s

/-- `LD E,H` (R100). -/
def execLdEH (s : State) : Result := load8 (.reg .e) (.reg .h) s

/-- `LD E,L` (R100). -/
def execLdEL (s : State) : Result := load8 (.reg .e) (.reg .l) s

/-- `LD E,(HL)` (R102). -/
def execLdEAtHl (s : State) : Result := load8 (.reg .e) .atHl s

/-- `LD E,A` (R100). -/
def execLdEA (s : State) : Result := load8 (.reg .e) (.reg .a) s

/-- `LD H,B` (R100). -/
def execLdHB (s : State) : Result := load8 (.reg .h) (.reg .b) s

/-- `LD H,C` (R100). -/
def execLdHC (s : State) : Result := load8 (.reg .h) (.reg .c) s

/-- `LD H,D` (R100). -/
def execLdHD (s : State) : Result := load8 (.reg .h) (.reg .d) s

/-- `LD H,E` (R100). -/
def execLdHE (s : State) : Result := load8 (.reg .h) (.reg .e) s

/-- `LD H,H` (R100). -/
def execLdHH (s : State) : Result := load8 (.reg .h) (.reg .h) s

/-- `LD H,L` (R100). -/
def execLdHL (s : State) : Result := load8 (.reg .h) (.reg .l) s

/-- `LD H,(HL)` (R102). -/
def execLdHAtHl (s : State) : Result := load8 (.reg .h) .atHl s

/-- `LD H,A` (R100). -/
def execLdHA (s : State) : Result := load8 (.reg .h) (.reg .a) s

/-- `LD L,B` (R100). -/
def execLdLB (s : State) : Result := load8 (.reg .l) (.reg .b) s

/-- `LD L,C` (R100). -/
def execLdLC (s : State) : Result := load8 (.reg .l) (.reg .c) s

/-- `LD L,D` (R100). -/
def execLdLD (s : State) : Result := load8 (.reg .l) (.reg .d) s

/-- `LD L,E` (R100). -/
def execLdLE (s : State) : Result := load8 (.reg .l) (.reg .e) s

/-- `LD L,H` (R100). -/
def execLdLH (s : State) : Result := load8 (.reg .l) (.reg .h) s

/-- `LD L,L` (R100). -/
def execLdLL (s : State) : Result := load8 (.reg .l) (.reg .l) s

/-- `LD L,(HL)` (R102). -/
def execLdLAtHl (s : State) : Result := load8 (.reg .l) .atHl s

/-- `LD L,A` (R100). -/
def execLdLA (s : State) : Result := load8 (.reg .l) (.reg .a) s

/-- `LD (HL),B` (R103). -/
def execLdAtHlB (s : State) : Result := load8 .atHl (.reg .b) s

/-- `LD (HL),C` (R103). -/
def execLdAtHlC (s : State) : Result := load8 .atHl (.reg .c) s

/-- `LD (HL),D` (R103). -/
def execLdAtHlD (s : State) : Result := load8 .atHl (.reg .d) s

/-- `LD (HL),E` (R103). -/
def execLdAtHlE (s : State) : Result := load8 .atHl (.reg .e) s

/-- `LD (HL),H` (R103). -/
def execLdAtHlH (s : State) : Result := load8 .atHl (.reg .h) s

/-- `LD (HL),L` (R103). -/
def execLdAtHlL (s : State) : Result := load8 .atHl (.reg .l) s

/-- `LD (HL),A` (R103). -/
def execLdAtHlA (s : State) : Result := load8 .atHl (.reg .a) s

/-- `LD A,B` (R100). -/
def execLdAB (s : State) : Result := load8 (.reg .a) (.reg .b) s

/-- `LD A,C` (R100). -/
def execLdAC (s : State) : Result := load8 (.reg .a) (.reg .c) s

/-- `LD A,D` (R100). -/
def execLdAD (s : State) : Result := load8 (.reg .a) (.reg .d) s

/-- `LD A,E` (R100). -/
def execLdAE (s : State) : Result := load8 (.reg .a) (.reg .e) s

/-- `LD A,H` (R100). -/
def execLdAH (s : State) : Result := load8 (.reg .a) (.reg .h) s

/-- `LD A,L` (R100). -/
def execLdAL (s : State) : Result := load8 (.reg .a) (.reg .l) s

/-- `LD A,(HL)` (R102). -/
def execLdAAtHl (s : State) : Result := load8 (.reg .a) .atHl s

/-- `LD A,A` (R100). -/
def execLdAA (s : State) : Result := load8 (.reg .a) (.reg .a) s

/-- `LDH (a8),A` (R112). -/
def execLdhAtA8A (n : Byte) (s : State) : Result := storeA (highPage n) 2 s

/-- `LD (C),A` (R114). -/
def execLdAtCA (s : State) : Result := storeA (highPage s.regs.c) 1 s

/-- `LD (a16),A` (R110). -/
def execLdAtA16A (nn : Word) (s : State) : Result := storeA nn 3 s

/-- `LDH A,(a8)` (R111). -/
def execLdhAAtA8 (n : Byte) (s : State) : Result := loadA (highPage n) 2 s

/-- `LD A,(C)` (R113). -/
def execLdAAtC (s : State) : Result := loadA (highPage s.regs.c) 1 s

/-- `LD A,(a16)` (R109). -/
def execLdAAtA16 (nn : Word) (s : State) : Result := loadA nn 3 s

end Sys2Proof.Machine
end

