-- ==== Sys2Proof/Machine/Rotate.lean ====
section
/-! DEFINITION. The accumulator rotates and the rotates and shifts of the extended table
(44_rotate_shift_bit.md R190 to R209). -/

namespace Sys2Proof.Machine

/-- An accumulator rotate, one byte long; Z is cleared whatever the result (R190 to R193). -/
def rotateA (op : RotOp) (s : State) : Result :=
  .next (((s.setA (rotateAResult op s.regs.a s.flags.c).value).setFlags
    (rotateAResult op s.regs.a s.flags.c).flags).setPc (s.pc + 1))

/-- A rotate or shift of `r8[z]`, two bytes long (R194 to R209). -/
def rotate (op : RotOp) (o : Opd8) (s : State) : Result :=
  complete s ((readOpd8 s o).bind fun v =>
    (writeOpd8 s o (rotateResult op v s.flags.c).value).bind fun t =>
      .ok ((t.setFlags (rotateResult op v s.flags.c).flags).setPc (s.pc + 2)))

/-- `RLCA` (R190). -/
def execRlca (s : State) : Result := rotateA .rlc s

/-- `RRCA` (R191). -/
def execRrca (s : State) : Result := rotateA .rrc s

/-- `RLA` (R192). -/
def execRla (s : State) : Result := rotateA .rl s

/-- `RRA` (R193). -/
def execRra (s : State) : Result := rotateA .rr s

/-- `RLC B` (R194). -/
def execRlcB (s : State) : Result := rotate .rlc (.reg .b) s

/-- `RLC C` (R194). -/
def execRlcC (s : State) : Result := rotate .rlc (.reg .c) s

/-- `RLC D` (R194). -/
def execRlcD (s : State) : Result := rotate .rlc (.reg .d) s

/-- `RLC E` (R194). -/
def execRlcE (s : State) : Result := rotate .rlc (.reg .e) s

/-- `RLC H` (R194). -/
def execRlcH (s : State) : Result := rotate .rlc (.reg .h) s

/-- `RLC L` (R194). -/
def execRlcL (s : State) : Result := rotate .rlc (.reg .l) s

/-- `RLC (HL)` (R195). -/
def execRlcAtHl (s : State) : Result := rotate .rlc .atHl s

/-- `RLC A` (R194). -/
def execRlcA (s : State) : Result := rotate .rlc (.reg .a) s

/-- `RRC B` (R196). -/
def execRrcB (s : State) : Result := rotate .rrc (.reg .b) s

/-- `RRC C` (R196). -/
def execRrcC (s : State) : Result := rotate .rrc (.reg .c) s

/-- `RRC D` (R196). -/
def execRrcD (s : State) : Result := rotate .rrc (.reg .d) s

/-- `RRC E` (R196). -/
def execRrcE (s : State) : Result := rotate .rrc (.reg .e) s

/-- `RRC H` (R196). -/
def execRrcH (s : State) : Result := rotate .rrc (.reg .h) s

/-- `RRC L` (R196). -/
def execRrcL (s : State) : Result := rotate .rrc (.reg .l) s

/-- `RRC (HL)` (R197). -/
def execRrcAtHl (s : State) : Result := rotate .rrc .atHl s

/-- `RRC A` (R196). -/
def execRrcA (s : State) : Result := rotate .rrc (.reg .a) s

/-- `RL B` (R198). -/
def execRlB (s : State) : Result := rotate .rl (.reg .b) s

/-- `RL C` (R198). -/
def execRlC (s : State) : Result := rotate .rl (.reg .c) s

/-- `RL D` (R198). -/
def execRlD (s : State) : Result := rotate .rl (.reg .d) s

/-- `RL E` (R198). -/
def execRlE (s : State) : Result := rotate .rl (.reg .e) s

/-- `RL H` (R198). -/
def execRlH (s : State) : Result := rotate .rl (.reg .h) s

/-- `RL L` (R198). -/
def execRlL (s : State) : Result := rotate .rl (.reg .l) s

/-- `RL (HL)` (R199). -/
def execRlAtHl (s : State) : Result := rotate .rl .atHl s

/-- `RL A` (R198). -/
def execRlA (s : State) : Result := rotate .rl (.reg .a) s

/-- `RR B` (R200). -/
def execRrB (s : State) : Result := rotate .rr (.reg .b) s

/-- `RR C` (R200). -/
def execRrC (s : State) : Result := rotate .rr (.reg .c) s

/-- `RR D` (R200). -/
def execRrD (s : State) : Result := rotate .rr (.reg .d) s

/-- `RR E` (R200). -/
def execRrE (s : State) : Result := rotate .rr (.reg .e) s

/-- `RR H` (R200). -/
def execRrH (s : State) : Result := rotate .rr (.reg .h) s

/-- `RR L` (R200). -/
def execRrL (s : State) : Result := rotate .rr (.reg .l) s

/-- `RR (HL)` (R201). -/
def execRrAtHl (s : State) : Result := rotate .rr .atHl s

/-- `RR A` (R200). -/
def execRrA (s : State) : Result := rotate .rr (.reg .a) s

/-- `SLA B` (R202). -/
def execSlaB (s : State) : Result := rotate .sla (.reg .b) s

/-- `SLA C` (R202). -/
def execSlaC (s : State) : Result := rotate .sla (.reg .c) s

/-- `SLA D` (R202). -/
def execSlaD (s : State) : Result := rotate .sla (.reg .d) s

/-- `SLA E` (R202). -/
def execSlaE (s : State) : Result := rotate .sla (.reg .e) s

/-- `SLA H` (R202). -/
def execSlaH (s : State) : Result := rotate .sla (.reg .h) s

/-- `SLA L` (R202). -/
def execSlaL (s : State) : Result := rotate .sla (.reg .l) s

/-- `SLA (HL)` (R203). -/
def execSlaAtHl (s : State) : Result := rotate .sla .atHl s

/-- `SLA A` (R202). -/
def execSlaA (s : State) : Result := rotate .sla (.reg .a) s

/-- `SRA B` (R204). -/
def execSraB (s : State) : Result := rotate .sra (.reg .b) s

/-- `SRA C` (R204). -/
def execSraC (s : State) : Result := rotate .sra (.reg .c) s

/-- `SRA D` (R204). -/
def execSraD (s : State) : Result := rotate .sra (.reg .d) s

/-- `SRA E` (R204). -/
def execSraE (s : State) : Result := rotate .sra (.reg .e) s

/-- `SRA H` (R204). -/
def execSraH (s : State) : Result := rotate .sra (.reg .h) s

/-- `SRA L` (R204). -/
def execSraL (s : State) : Result := rotate .sra (.reg .l) s

/-- `SRA (HL)` (R205). -/
def execSraAtHl (s : State) : Result := rotate .sra .atHl s

/-- `SRA A` (R204). -/
def execSraA (s : State) : Result := rotate .sra (.reg .a) s

/-- `SWAP B` (R206). -/
def execSwapB (s : State) : Result := rotate .swap (.reg .b) s

/-- `SWAP C` (R206). -/
def execSwapC (s : State) : Result := rotate .swap (.reg .c) s

/-- `SWAP D` (R206). -/
def execSwapD (s : State) : Result := rotate .swap (.reg .d) s

/-- `SWAP E` (R206). -/
def execSwapE (s : State) : Result := rotate .swap (.reg .e) s

/-- `SWAP H` (R206). -/
def execSwapH (s : State) : Result := rotate .swap (.reg .h) s

/-- `SWAP L` (R206). -/
def execSwapL (s : State) : Result := rotate .swap (.reg .l) s

/-- `SWAP (HL)` (R207). -/
def execSwapAtHl (s : State) : Result := rotate .swap .atHl s

/-- `SWAP A` (R206). -/
def execSwapA (s : State) : Result := rotate .swap (.reg .a) s

/-- `SRL B` (R208). -/
def execSrlB (s : State) : Result := rotate .srl (.reg .b) s

/-- `SRL C` (R208). -/
def execSrlC (s : State) : Result := rotate .srl (.reg .c) s

/-- `SRL D` (R208). -/
def execSrlD (s : State) : Result := rotate .srl (.reg .d) s

/-- `SRL E` (R208). -/
def execSrlE (s : State) : Result := rotate .srl (.reg .e) s

/-- `SRL H` (R208). -/
def execSrlH (s : State) : Result := rotate .srl (.reg .h) s

/-- `SRL L` (R208). -/
def execSrlL (s : State) : Result := rotate .srl (.reg .l) s

/-- `SRL (HL)` (R209). -/
def execSrlAtHl (s : State) : Result := rotate .srl .atHl s

/-- `SRL A` (R208). -/
def execSrlA (s : State) : Result := rotate .srl (.reg .a) s

end Sys2Proof.Machine
end

