-- ==== Sys2Proof/Machine/System.lean ====
section
/-! DEFINITION. The system instructions (46_system.md R240 to R246). -/

namespace Sys2Proof.Machine

/-- `NOP` (R240). -/
def nop (s : State) : Result := .next (s.setPc (s.pc + 1))

/-- `EI` (R241): the latch is set at once, with no delay. -/
def enableLatch (s : State) : Result := .next ((s.setIme true).setPc (s.pc + 1))

/-- `DI` (R242). -/
def disableLatch (s : State) : Result := .next ((s.setIme false).setPc (s.pc + 1))

/-- An absent opcode (R246): the CORE takes `DecodeError` naming the byte; nothing else changes. -/
def raiseDecode (op : Byte) (s : State) : Result := .next (s.raise (.decodeError op))

/-- `HALT` (R243): `DecodeError(0x76)`, or, under the policy `nop`, only the PC's advance. -/
def halt (s : State) : Result :=
  match s.cfg.haltStop with
  | .decodeError => raiseDecode 0x76 s
  | .nop => .next (s.setPc (s.pc + 1))

/-- `STOP` (R244): `DecodeError(0x10)` without reading the second byte, or, under the policy `nop`, the
second byte is fetched and ignored and the PC advances by two. -/
def stop (s : State) : Result :=
  match s.cfg.haltStop with
  | .decodeError => raiseDecode 0x10 s
  | .nop => complete s ((busRead s (s.pc + 1)).bind fun _ => .ok (s.setPc (s.pc + 2)))

/-- The effect of the extended-table entry of a second byte, by its fields (30_encoding.md R92). -/
def extendedEffect (op2 : Byte) (s : State) : Result :=
  match fieldX op2 with
  | 0 => rotate (rotOpOf (fieldY op2)) (opd8Of (fieldZ op2)) s
  | 1 => testBit (Fin.ofNat 8 (fieldY op2)) (opd8Of (fieldZ op2)) s
  | 2 => resetBit (Fin.ofNat 8 (fieldY op2)) (opd8Of (fieldZ op2)) s
  | _ => setBit (Fin.ofNat 8 (fieldY op2)) (opd8Of (fieldZ op2)) s

/-- `PREFIX CB` with its second byte (R245): flags, exceptions and PC are those of the extended-table
instruction it selects; a second byte in `ABSENT_EXTENDED` is a `DecodeError`. -/
def escape (op2 : Byte) (s : State) : Result :=
  if extendedAbsent s.cfg op2 then raiseDecode op2 s else extendedEffect op2 s

/-- `NOP` (R240). -/
def execNop (s : State) : Result := nop s

/-- `STOP (absent)` (R244). -/
def execStopAbsent (s : State) : Result := stop s

/-- `HALT (absent)` (R243). -/
def execHaltAbsent (s : State) : Result := halt s

/-- `PREFIX CB` (R245). -/
def execPrefixCb (op2 : Byte) (s : State) : Result := escape op2 s

/-- `--` (R246). -/
def execAbsentD3 (s : State) : Result := raiseDecode 0xD3 s

/-- `--` (R246). -/
def execAbsentDB (s : State) : Result := raiseDecode 0xDB s

/-- `--` (R246). -/
def execAbsentDD (s : State) : Result := raiseDecode 0xDD s

/-- `--` (R246). -/
def execAbsentE3 (s : State) : Result := raiseDecode 0xE3 s

/-- `--` (R246). -/
def execAbsentE4 (s : State) : Result := raiseDecode 0xE4 s

/-- `--` (R246). -/
def execAbsentEB (s : State) : Result := raiseDecode 0xEB s

/-- `--` (R246). -/
def execAbsentEC (s : State) : Result := raiseDecode 0xEC s

/-- `--` (R246). -/
def execAbsentED (s : State) : Result := raiseDecode 0xED s

/-- `DI` (R242). -/
def execDi (s : State) : Result := disableLatch s

/-- `--` (R246). -/
def execAbsentF4 (s : State) : Result := raiseDecode 0xF4 s

/-- `EI` (R241). -/
def execEi (s : State) : Result := enableLatch s

/-- `--` (R246). -/
def execAbsentFC (s : State) : Result := raiseDecode 0xFC s

/-- `--` (R246). -/
def execAbsentFD (s : State) : Result := raiseDecode 0xFD s

/-- `RST 38H (absent)` (R246). -/
def execRst38Absent (s : State) : Result := raiseDecode 0xFF s

end Sys2Proof.Machine
end

