-- ==== Sys2Proof/Machine/Step.lean ====
section
/-! DEFINITION. One step of the dispatcher (30_encoding.md R80). -/

namespace Sys2Proof.Machine

/-- One step. It is taken only when RUN is `running` (R80, 10_state.md R37): the instruction at PC is
fetched, decoded and executed, or the fault of its fetch is taken. Asked of a core that is `faulted` or
`stopped`, it is stuck by name (60_exceptions.md R306, R321). -/
def step (s : State) : Host.Outcome State Fault Refusal :=
  match s.run with
  | .faulted cause pc => .fault (.coreFaulted cause pc)
  | .stopped => .fault .coreStopped
  | .running =>
    match fetch s with
    | .error cause => .next (s.raise cause)
    | .ok i => exec i s

/-- `s` with a row's instruction (`nbits` bits of `w`, then zeros, three bytes in all) placed where the next
fetch reads: in the image while PC is in the ROM region, as at reset (log entries 3 and 10). -/
def State.withFetchWord (s : State) (nbits w : Nat) : State := placeBytes s s.pc (tableBytes nbits w)

end Sys2Proof.Machine
end

