-- ==== Sys2Proof/Machine/HostMoves.lean ====
section
/-! DEFINITION. The host's side of the interface (70_reset_and_hazards.md R351, R352): the moves it may make
between steps, and what it may see. -/

namespace Sys2Proof.Machine

/-- The moves the host may make between two steps (R351). -/
inductive HostMove where
  /-- Write a byte at an address in [0xFF00,0xFF7F] (20_memory.md R70). -/
  | ioWrite (addr : Word) (v : Byte)
  /-- The stop request (60_exceptions.md R321). -/
  | stop
deriving DecidableEq, Repr

/-- The host-writable range [0xFF00,0xFF7F] (R70). -/
def isHostIo (a : Word) : Bool := decide (0xFF00 ≤ a.toNat) && decide (a.toNat ≤ 0xFF7F)

/-- A host move. It is made only while the run goes on (R354); a write outside the range is not the host's
to make (R352). -/
def hostMove (m : HostMove) (s : State) : Result :=
  match s.run with
  | .faulted cause pc => .fault (.coreFaulted cause pc)
  | .stopped => .fault .coreStopped
  | .running =>
    match m with
    | .ioWrite a v =>
      if isHostIo a then .next (s.setMem (s.mem.write a.toNat v)) else .refused .hostMoveNotGranted
    | .stop => .next (s.setRun .stopped)

/-- The CPU state the host may read between steps (10_state.md R39, 60_exceptions.md R305). -/
structure CpuView where
  a : Byte
  f : Byte
  b : Byte
  c : Byte
  d : Byte
  e : Byte
  h : Byte
  l : Byte
  sp : Word
  pc : Word
  ime : Bool
deriving DecidableEq, Repr

/-- The fault record handed to the host (R305): kind and info, the address of the instruction, and the CPU
state at the start of the faulting step. -/
structure FaultRecord where
  cause : FaultCause
  pc : Word
  cpu : CpuView
deriving DecidableEq, Repr

/-- What a diagnostic read of the CPU state returns (R39); F is packed (R29). -/
def State.cpuView (s : State) : CpuView where
  a := s.regs.a
  f := packFlags s.flags
  b := s.regs.b
  c := s.regs.c
  d := s.regs.d
  e := s.regs.e
  h := s.regs.h
  l := s.regs.l
  sp := s.sp
  pc := s.pc
  ime := s.ime

/-- The record of the fault that ended the run, if one did (R305). -/
def State.faultRecord (s : State) : Option FaultRecord :=
  match s.run with
  | .faulted cause pc => some { cause := cause, pc := pc, cpu := s.cpuView }
  | _ => none

end Sys2Proof.Machine
end

