-- ==== Sys2Proof/Machine/Run.lean ====
section
/-! DEFINITION. A run (70_reset_and_hazards.md R354): core steps and host moves alternating. The list of
moves is free, which is the parameter HOST_IO of 00_scope.md R7: a claim about a run quantifies over it. -/

namespace Sys2Proof.Machine

/-- What happens next in a run: a step of the CORE, or a move of the host between steps. -/
inductive Move where
  | core
  | host (m : HostMove)
deriving DecidableEq, Repr

/-- One move of a run. -/
def move (m : Move) (s : State) : Result :=
  match m with
  | .core => step s
  | .host h => hostMove h s

/-- The moves of a list in order, up to the first that finds the machine stuck. -/
def runMoves (ms : List Move) (s : State) : Result :=
  match ms with
  | [] => .next s
  | m :: ms =>
    match move m s with
    | .next t => runMoves ms t
    | .fault r => .fault r
    | .refused r => .refused r

end Sys2Proof.Machine
end

