-- ==== Sys2Proof/Safety.lean ====
section
/-! DEFINITION. What claims mean by a good state and a good run, and the words the statements are written
in: the state a fault leaves, the cases of an instruction that reads or writes through the bus, the bytes an
instruction may store to, and which instructions set the PC themselves. -/

namespace Sys2Proof.Machine

/-! ## Good states and runs -/

/-- The invariant of the state: mutable storage is in canonical form and lists only addresses that have a
cell (10_state.md R36). -/
def State.wf (s : State) : Bool := s.mem.wf && s.mem.inStorage

/-- No fault has been taken (60_exceptions.md R306). -/
def State.noFault (s : State) : Bool :=
  match s.run with
  | .running => true
  | .stopped => true
  | .faulted _ _ => false

/-- A run is safe when none of its moves is stuck and it ends without a fault. -/
def SafeRun (ms : List Move) (s : State) : Prop := ∃ t, runMoves ms s = .next t ∧ t.noFault = true

/-! ## How a statement gives an instruction's outcome -/

/-- The state after a fault taken in `s`: only RUN differs (R306, R307). -/
def faultedAt (s : State) (cause : FaultCause) : State := { s with run := .faulted cause s.pc }

/-- `r` is `after v` when the byte `v` can be read at `a`, and the fault of that read when it cannot. -/
def OnRead (s : State) (a : Word) (r : Result) (after : Byte → State) : Prop :=
  (∀ v, busRead s a = .ok v → r = .next (after v)) ∧
    (∀ cause, busRead s a = .error cause → r = .next (faultedAt s cause))

/-- `r` is `after v` when the operand `o` reads as `v`, and the fault of that read when it cannot be read. -/
def OnOperand (s : State) (o : Opd8) (r : Result) (after : Byte → State) : Prop :=
  (∀ v, readOpd8 s o = .ok v → r = .next (after v)) ∧
    (∀ cause, readOpd8 s o = .error cause → r = .next (faultedAt s cause))

/-- `r` is `after t` when storing the byte `v` at `a` gives `t`, and the fault of that store when it
faults. -/
def OnWrite (s : State) (a : Word) (v : Byte) (r : Result) (after : State → State) : Prop :=
  (∀ t, busWrite s a v = .ok t → r = .next (after t)) ∧
    (∀ cause, busWrite s a v = .error cause → r = .next (faultedAt s cause))

/-- A read-modify-write of the operand `o`: the read's fault, then the write's fault, else `after v t`, where
`v` is the byte read and `t` the state with `f v` written. -/
def OnModify (s : State) (o : Opd8) (f : Byte → Byte) (r : Result) (after : Byte → State → State) : Prop :=
  (∀ cause, readOpd8 s o = .error cause → r = .next (faultedAt s cause)) ∧
    (∀ v, readOpd8 s o = .ok v →
      (∀ t, writeOpd8 s o (f v) = .ok t → r = .next (after v t)) ∧
        (∀ cause, writeOpd8 s o (f v) = .error cause → r = .next (faultedAt s cause)))

/-- A push of `v`: `r` is `after t` when the word can be stored at SP - 2, where `t` is the state with it
stored and SP moved; the fault of the store when it faults. -/
def OnPush (s : State) (v : Word) (r : Result) (after : State → State) : Prop :=
  (∀ t, writeWord s (s.sp - 2) v = .ok t → r = .next (after { t with sp := s.sp - 2 })) ∧
    (∀ cause, writeWord s (s.sp - 2) v = .error cause → r = .next (faultedAt s cause))

/-- A pop: `r` is `after v` when the word at SP reads as `v`, and the fault of the read when it faults. -/
def OnPop (s : State) (r : Result) (after : Word → State) : Prop :=
  (∀ v, readWord s s.sp = .ok v → r = .next (after v)) ∧
    (∀ cause, readWord s s.sp = .error cause → r = .next (faultedAt s cause))

/-! ## Results as exact integers, narrowed at the end (00_scope.md R8, 10_state.md R22) -/

/-- A byte read as a two's-complement number. -/
def signedByte (n : Byte) : Int := if n.toNat < 128 then (n.toNat : Int) else (n.toNat : Int) - 256

/-- `s` after A becomes A + b + c modulo 256, with the flags `Z 0 H C` of that sum. -/
def sumIntoA (s : State) (b : Byte) (c : Bool) (len : Word) : State :=
  { s with
    regs := { s.regs with a := BitVec.ofNat 8 (s.regs.a.toNat + b.toNat + c.toNat) }
    flags :=
      { z := decide ((s.regs.a.toNat + b.toNat + c.toNat) % 256 = 0)
        n := false
        h := decide (s.regs.a.toNat % 16 + b.toNat % 16 + c.toNat > 15)
        c := decide (s.regs.a.toNat + b.toNat + c.toNat > 255) }
    pc := s.pc + len }

/-- The flags `Z 1 H C` of A - b - c. -/
def differenceFlags (a b : Byte) (c : Bool) : Flags :=
  { z := decide (((a.toNat : Int) - b.toNat - c.toNat) % 256 = 0)
    n := true
    h := decide (a.toNat % 16 < b.toNat % 16 + c.toNat)
    c := decide (a.toNat < b.toNat + c.toNat) }

/-- `s` after A becomes A - b - c modulo 256, with the flags of that difference. -/
def differenceIntoA (s : State) (b : Byte) (c : Bool) (len : Word) : State :=
  { s with
    regs := { s.regs with a := BitVec.ofInt 8 ((s.regs.a.toNat : Int) - b.toNat - c.toNat) }
    flags := differenceFlags s.regs.a b c
    pc := s.pc + len }

/-- `s` after A becomes the byte `r` of a logic operation: Z from the result, N and Cf clear, Hf as given. -/
def logicIntoA (s : State) (r : Byte) (h : Bool) (len : Word) : State :=
  { s with
    regs := { s.regs with a := r }
    flags := { z := decide (r.toNat = 0), n := false, h := h, c := false }
    pc := s.pc + len }

/-- The flags `Z 0 0 C` of a rotate or shift with result `r` and carry out `c`. -/
def rotateFlags (r : Byte) (c : Bool) : Flags := { z := decide (r.toNat = 0), n := false, h := false, c := c }

/-- `s` after an accumulator rotate: A is `r`, the flags are `0 0 0 C`. -/
def rotatedA (s : State) (r : Byte) (c : Bool) : State :=
  { s with
    regs := { s.regs with a := r }
    flags := { z := false, n := false, h := false, c := c }
    pc := s.pc + 1 }

/-- The flags `0 0 H C` of SP plus a displacement: the carries out of bits 3 and 7 of the unsigned sum of
SP's low byte and the operand byte. -/
def offsetFlags (sp : Word) (n : Byte) : Flags :=
  { z := false
    n := false
    h := decide (sp.toNat % 16 + n.toNat % 16 > 15)
    c := decide (sp.toNat % 256 + n.toNat > 255) }

/-- SP plus a signed displacement, modulo 65536. -/
def offsetSp (sp : Word) (n : Byte) : Word := BitVec.ofInt 16 ((sp.toNat : Int) + signedByte n)

/-! ## The bytes an instruction may store to -/

/-- The bytes of a byte store to an 8-bit operand. -/
def operandBytes (s : State) (o : Opd8) : List Word :=
  match o with
  | .reg _ => []
  | .atHl => [getReg16 s .hl]

/-- The two bytes of a push. -/
def pushBytes (s : State) : List Word := [s.sp - 2, s.sp - 2 + 1]

/-- The bytes an extended-table instruction stores to: HL's, for the (HL) forms other than BIT. -/
def extendedBytes (s : State) (op2 : Byte) : List Word :=
  if fieldX op2 = 1 then [] else operandBytes s (opd8Of (fieldZ op2))

/-- Every bus address an instruction may store to, the latch at 0xFFFF counted for EI, DI and RETI, from the
state it begins in. An instruction not listed stores to none. -/
def storedBytes (i : Instr) (s : State) : List Word :=
  match i with
  | .ldAtHlB | .ldAtHlC | .ldAtHlD | .ldAtHlE | .ldAtHlH | .ldAtHlL | .ldAtHlA | .ldAtHlD8 _ => [getReg16 s .hl]
  | .ldAtHlIncA | .ldAtHlDecA | .incAtHl | .decAtHl => [getReg16 s .hl]
  | .ldAtBcA => [getReg16 s .bc]
  | .ldAtDeA => [getReg16 s .de]
  | .ldAtA16A nn => [nn]
  | .ldAtA16Sp nn => [nn, nn + 1]
  | .ldhAtA8A n => [highPage n]
  | .ldAtCA => [highPage s.regs.c]
  | .pushBc | .pushDe | .pushHl | .pushAf => pushBytes s
  | .callA16 _ => pushBytes s
  | .callNzA16 _ => if condHolds s.flags .nz then pushBytes s else []
  | .callZA16 _ => if condHolds s.flags .z then pushBytes s else []
  | .callNcA16 _ => if condHolds s.flags .nc then pushBytes s else []
  | .callCA16 _ => if condHolds s.flags .c then pushBytes s else []
  | .rst00 | .rst08 | .rst10 | .rst18 | .rst20 | .rst28 | .rst30 => pushBytes s
  | .ei | .di | .reti => [0xFFFF]
  | .rlcAtHl | .rrcAtHl | .rlAtHl | .rrAtHl | .slaAtHl | .sraAtHl | .swapAtHl | .srlAtHl => [getReg16 s .hl]
  | .res0AtHl | .res1AtHl | .res2AtHl | .res3AtHl | .res4AtHl | .res5AtHl | .res6AtHl | .res7AtHl => [getReg16 s .hl]
  | .set0AtHl | .set1AtHl | .set2AtHl | .set3AtHl | .set4AtHl | .set5AtHl | .set6AtHl | .set7AtHl => [getReg16 s .hl]
  | .prefixCb op2 => extendedBytes s op2
  | _ => []

/-! ## The PC -/

/-- Whether an instruction is a control transfer that is taken under these flags, so that it sets PC
explicitly (10_state.md R27): a jump, call, return or restart, a conditional one when its condition holds. -/
def takesTransfer (i : Instr) (f : Flags) : Bool :=
  match i with
  | .jpA16 _ | .jpHl | .jrE8 _ | .callA16 _ | .ret | .reti => true
  | .rst00 | .rst08 | .rst10 | .rst18 | .rst20 | .rst28 | .rst30 => true
  | .jpNzA16 _ | .jrNzE8 _ | .callNzA16 _ | .retNz => condHolds f .nz
  | .jpZA16 _ | .jrZE8 _ | .callZA16 _ | .retZ => condHolds f .z
  | .jpNcA16 _ | .jrNcE8 _ | .callNcA16 _ | .retNc => condHolds f .nc
  | .jpCA16 _ | .jrCE8 _ | .callCA16 _ | .retC => condHolds f .c
  | _ => false

/-- The bytes an instruction consumes when it completes: its encoding, and for STOP, which completes only
under the policy `nop`, its ignored second byte too (46_system.md R244). -/
def consumed (i : Instr) : Nat :=
  match i with
  | .stopAbsent => 2
  | _ => (encode i).length

end Sys2Proof.Machine
end

