-- ==== Sys2Proof/Certificates/Slice0/Obligations.lean ====
section
/-! DEFINITION. The statements for the provers. Each docstring names the rule of spec/ it formalises. The
words they share (`OnRead`, `OnModify`, `OnPush`, `faultedAt`, `sumIntoA` and so on) are in Safety.lean; the
selectors that name whole groups of constructors (`ldInstr`, `aluInstr`, `rotInstr` and so on) are in
Decode.lean, each a table of constructors. A result is stated as the WHOLE next state, so it says what the
instruction leaves unchanged too. -/

open Sys2Proof Sys2Proof.Machine

/-! ## Decoding and encoding -/

/-- Decoding the encoding of any well-formed instruction, whatever bytes follow it, gives it back with every
operand as it was, and leaves the bytes that follow. -/
def Obligations.EncodedInstructionDecodesBack : Prop :=
  ∀ (i : Instr) (rest : List Byte), WellFormed i = true → decode (encode i ++ rest) = .instr i rest

/-- Bytes that decode are the encoding of what they decode to, which is well formed: each byte sequence has
one meaning (30_encoding.md R95). -/
def Obligations.DecodedBytesAreTheEncoding : Prop :=
  ∀ (bytes rest : List Byte) (i : Instr),
    decode bytes = .instr i rest → WellFormed i = true ∧ bytes = encode i ++ rest

/-- Lengths are 1, 2 or 3, fixed by the first byte (2 for the escape 0xCB), and bytes are rejected exactly when
fewer are there than the first byte calls for (R81). -/
def Obligations.LengthIsFixedByTheFirstByte : Prop :=
  (∀ op : Byte, 1 ≤ lengthOf op ∧ lengthOf op ≤ 3) ∧ lengthOf 0xCB = 2 ∧
    (∀ (op : Byte) (tail rest : List Byte) (i : Instr),
      decode (op :: tail) = .instr i rest → (op :: tail).length = lengthOf op + rest.length) ∧
    (∀ (op : Byte) (tail : List Byte), lengthOf op ≤ (op :: tail).length →
      ∃ i rest, decode (op :: tail) = .instr i rest) ∧
    (∀ (op : Byte) (tail : List Byte), (op :: tail).length < lengthOf op →
      ∃ why, decode (op :: tail) = .rejected why)

/-- Words written out from the encodings of the spec decode to the instructions they stand for. -/
def Obligations.WordsDecodeAsTheSpecWritesThem : Prop :=
  decode [0x7C] = .instr .ldAH [] ∧
    decode [0x21, 0x00, 0xC0] = .instr (.ldHlD16 0xC000) [] ∧
    decode [0xAF, 0xC3, 0x00, 0x01] = .instr .xorA [0xC3, 0x00, 0x01] ∧
    decode [0xC3, 0x00, 0x01] = .instr (.jpA16 0x0100) [] ∧
    decode [0x39] = .instr .addHlSp [] ∧
    decode [0x18, 0xFE] = .instr (.jrE8 0xFE) [] ∧
    decode [0xCB, 0x37] = .instr .swapA [] ∧
    decode [0xCB, 0xCB] = .instr .set1E [] ∧
    decode [0xF3] = .instr .di [] ∧
    decode [0xFF] = .instr .rst38Absent []

/-! ## The step -/

/-- The step of a running core whose bytes at PC decode to an instruction, none of the opcode bytes being
absent, is that instruction's execution (30_encoding.md R80). The CORE adds nothing around it. -/
def Obligations.StepRunsTheDecodedInstruction : Prop :=
  ∀ (s : State) (bytes : List Byte) (i : Instr),
    s.run = .running → decode bytes = .instr i [] →
    (∀ (k : Nat) (hk : k < bytes.length), busRead s (s.pc + BitVec.ofNat 16 k) = .ok (bytes[k]'hk)) →
    primaryAbsent s.cfg (bytes.headD 0) = false →
    (bytes.headD 0 = 0xCB → extendedAbsent s.cfg (bytes.getD 1 0) = false) →
    step s = exec i s

/-- A fetch fault is taken in the order of 60_exceptions.md R309, which is the spec's decision D10: the opcode
byte, its absence, then the byte after it where the opcode calls for one, its absence after 0xCB, then the
third byte. -/
def Obligations.FetchFaultsAreTakenInOrder : Prop :=
  ∀ (s : State) (op : Byte) (cause : FaultCause), s.run = .running →
    (busRead s s.pc = .error cause → step s = .next (faultedAt s cause)) ∧
    (busRead s s.pc = .ok op → primaryAbsent s.cfg op = true →
      step s = .next (faultedAt s (.decodeError op))) ∧
    (busRead s s.pc = .ok op → primaryAbsent s.cfg op = false → 2 ≤ lengthOf op →
      busRead s (s.pc + 1) = .error cause → step s = .next (faultedAt s cause)) ∧
    (∀ op2, busRead s s.pc = .ok 0xCB → primaryAbsent s.cfg 0xCB = false →
      busRead s (s.pc + 1) = .ok op2 → extendedAbsent s.cfg op2 = true →
      step s = .next (faultedAt s (.decodeError op2))) ∧
    (∀ n, busRead s s.pc = .ok op → primaryAbsent s.cfg op = false → lengthOf op = 3 →
      busRead s (s.pc + 1) = .ok n → busRead s (s.pc + 1 + 1) = .error cause →
      step s = .next (faultedAt s cause))

/-- A fault is terminal: a faulted or stopped core takes no further step, and the host has no move on it
(60_exceptions.md R306, R321). That the model answers the stuck faults `coreFaulted` and `coreStopped` there
is its own choice (log entry 5). -/
def Obligations.EndedRunTakesNoStep : Prop :=
  (∀ (s : State) (cause : FaultCause) (pc : Word), s.run = .faulted cause pc →
    step s = .fault (.coreFaulted cause pc) ∧ ∀ m, hostMove m s = .fault (.coreFaulted cause pc)) ∧
    (∀ s : State, s.run = .stopped →
      step s = .fault .coreStopped ∧ ∀ m, hostMove m s = .fault .coreStopped)

/-- Every step of a running core, in every state, answers a next state: it completes and the core still runs,
or it takes a fault that names the address of the instruction and changes nothing but RUN (60_exceptions.md
R306, R307, the second of which is the spec's decision D9). -/
def Obligations.RunningStepCompletesOrFaultsPrecisely : Prop :=
  ∀ s : State, s.run = .running →
    ∃ t, step s = .next t ∧ (t.run = .running ∨ ∃ cause, t = { s with run := .faulted cause s.pc })

/-- A fault taken by a step has the cause the taxonomy gives it (60_exceptions.md R300 to R304, with the spec's
decisions D3 and D15): a DecodeError names an absent opcode byte, or an absent second byte after 0xCB; an
AddressError an address in ROM, under the policy that faults writes there; a ConfigError an address in ROM
beyond the image. That the default absent bytes without a row's meaning stay absent under every choice of
ABSENT_PRIMARY is the model's choice (log entry 7). -/
def Obligations.EveryFaultHasTheCauseItNames : Prop :=
  ∀ (s t : State) (cause : FaultCause) (pc : Word),
    s.run = .running → step s = .next t → t.run = .faulted cause pc →
    match cause with
    | .decodeError op =>
      (busRead s s.pc = .ok op ∧ (primaryAbsent s.cfg op = true ∨ op ∈ defaultAbsentPrimary)) ∨
        (busRead s s.pc = .ok 0xCB ∧ busRead s (s.pc + 1) = .ok op ∧ extendedAbsent s.cfg op = true)
    | .addressError a => 0x100 ≤ a.toNat ∧ a.toNat < 0x8000 ∧ s.cfg.romWrite = .addressError
    | .configError a => 0x100 ≤ a.toNat ∧ a.toNat < 0x8000 ∧ s.cfg.image.length ≤ a.toNat - 0x100

/-- Every instruction that is not a taken control transfer (a conditional one whose condition is false
included) advances PC, modulo 65536, by exactly the bytes it consumed (10_state.md R27). -/
def Obligations.PcAdvancesByTheBytesConsumed : Prop :=
  ∀ (i : Instr) (s t : State), takesTransfer i s.flags = false → s.run = .running →
    exec i s = .next t → t.run = .running → t.pc = s.pc + BitVec.ofNat 16 (consumed i)

/-- Every instruction leaves every byte of the bus as it was except those it stores to, for every address, in
every state; the latch counts as the byte at 0xFFFF. -/
def Obligations.OnlyStoredBytesChange : Prop :=
  ∀ (i : Instr) (s t : State) (b : Word),
    exec i s = .next t → b ∉ storedBytes i s → busRead t b = busRead s b

/-- The invariant of storage is kept by every step from every state that meets it: storage stays in canonical
form and lists only addresses that have a cell (10_state.md R36). -/
def Obligations.StepKeepsStorageCanonical : Prop :=
  ∀ s t : State, s.wf = true → step s = .next t → t.wf = true

/-- Reset meets the invariant, for every choice of the parameters that R94, R343 and the form of `RAM_INIT`
allow, the defaults among them. -/
def Obligations.ResetStorageIsCanonical : Prop :=
  configWf defaultConfig = true ∧ ∀ cfg : Config, configWf cfg = true → (State.resetWith cfg).wf = true

/-- Over any run, whatever moves the host makes between the steps, the invariant holds and the configuration,
the image in it, is what it was (10_state.md R20, 20_memory.md R53). -/
def Obligations.RunKeepsInvariantAndConfiguration : Prop :=
  ∀ (ms : List Move) (s t : State),
    runMoves ms s = .next t → t.cfg = s.cfg ∧ (s.wf = true → t.wf = true)

/-- What a read of the ROM region answers is the same after any run: no instruction and no host move changes
code or data in it (R53, R54, R71). -/
def Obligations.RomReadsNeverChange : Prop :=
  ∀ (ms : List Move) (s t : State) (a : Word),
    0x100 ≤ a.toNat → a.toNat < 0x8000 → runMoves ms s = .next t → busRead t a = busRead s a

/-- The host's moves (70_reset_and_hazards.md R351, R352): a byte written in [0xFF00,0xFF7F], which the bus
then reads there and which leaves every other byte and all of the CPU alone; nothing outside the range,
which the model answers with a refusal (log entry 9); and the stop request, which changes RUN alone. The
moves are the spec's decision D16. -/
def Obligations.HostMovesAreTheGrantedOnes : Prop :=
  ∀ s : State, s.run = .running →
    (∀ (a : Word) (v : Byte), 0xFF00 ≤ a.toNat → a.toNat ≤ 0xFF7F →
      ∃ t, hostMove (.ioWrite a v) s = .next t ∧ t = { s with mem := t.mem } ∧
        (s.wf = true → busRead t a = .ok v) ∧ ∀ b, b ≠ a → busRead t b = busRead s b) ∧
    (∀ (a : Word) (v : Byte), (a.toNat < 0xFF00 ∨ 0xFF7F < a.toNat) →
      hostMove (.ioWrite a v) s = .refused .hostMoveNotGranted) ∧
    hostMove .stop s = .next { s with run := .stopped }

/-! ## Reset -/

/-- Reset under any parameters: PC 0x0100, SP 0xFFFE, the seven registers, the flags unpacked from RESET_F,
the latch, storage and RUN (70_reset_and_hazards.md R340 to R345; that the values are parameters is the
spec's decisions D6, D7, D8). -/
def Obligations.ResetTakesItsParameters : Prop :=
  ∀ cfg : Config, State.resetWith cfg =
    { regs := { a := cfg.resetA, b := cfg.resetB, c := cfg.resetC, d := cfg.resetD, e := cfg.resetE,
                h := cfg.resetH, l := cfg.resetL }
      flags := unpackFlags cfg.resetF
      sp := 0xFFFE, pc := 0x0100, ime := cfg.resetIme, mem := cfg.ramInit, run := .running, cfg := cfg }

/-- The reset state with the default parameters of R346, as the host sees it, and its first step with no image
supplied, which is `ConfigError(0x0100)` (60_exceptions.md R303). The register values are the spec's own
defaults (its D6, D7; log entry 6), the empty image and all-zero storage the model's (log entries 2, 3). -/
def Obligations.DefaultResetAndItsFirstStep : Prop :=
  State.reset.cpuView =
      { a := 0x01, f := 0xB0, b := 0x00, c := 0x13, d := 0x00, e := 0xD8, h := 0x01, l := 0x4D,
        sp := 0xFFFE, pc := 0x0100, ime := false } ∧
    State.reset.run = .running ∧ (∀ a, isMutable a = true → State.reset.mem.read a = 0) ∧
    step State.reset = .next (faultedAt State.reset (.configError 0x0100))

/-! ## Registers, pairs and flags -/

/-- Reads and writes of the registers and the selectors (R86, 10_state.md R21): the index order B C D E H L
(HL) A; index 6 is the bus byte at HL; a register reads back what was written and no other register
changes. -/
def Obligations.RegisterOperandsReadAndWriteTheirRegister : Prop :=
  [0, 1, 2, 3, 4, 5, 6, 7].map opd8Of =
      [.reg .b, .reg .c, .reg .d, .reg .e, .reg .h, .reg .l, .atHl, .reg .a] ∧
    (∀ (s : State) (r q : Reg8) (v : Byte),
      readOpd8 s (.reg r) = .ok (getReg8 s r) ∧ writeOpd8 s (.reg r) v = .ok (setReg8 s r v) ∧
        getReg8 (setReg8 s r v) q = if q = r then v else getReg8 s q) ∧
    (∀ (s : State) (v : Byte), readOpd8 s .atHl = busRead s (getReg16 s .hl) ∧
      writeOpd8 s .atHl v = busWrite s (getReg16 s .hl) v)

/-- A pair is a view of its halves (R23): it reads as high half * 256 + low half, and a write of `v` puts
v / 256 in the high half and v mod 256 in the low half and changes nothing else. -/
def Obligations.PairsAreViewsOfTheirHalves : Prop :=
  ∀ (s : State) (v : Word),
    (getReg16 s .bc).toNat = s.regs.b.toNat * 256 + s.regs.c.toNat ∧
    (getReg16 s .de).toNat = s.regs.d.toNat * 256 + s.regs.e.toNat ∧
    (getReg16 s .hl).toNat = s.regs.h.toNat * 256 + s.regs.l.toNat ∧
    setReg16 s .bc v = { s with regs := { s.regs with b := BitVec.ofNat 8 (v.toNat / 256),
                                                      c := BitVec.ofNat 8 (v.toNat % 256) } } ∧
    setReg16 s .de v = { s with regs := { s.regs with d := BitVec.ofNat 8 (v.toNat / 256),
                                                      e := BitVec.ofNat 8 (v.toNat % 256) } } ∧
    setReg16 s .hl v = { s with regs := { s.regs with h := BitVec.ofNat 8 (v.toNat / 256),
                                                      l := BitVec.ofNat 8 (v.toNat % 256) } } ∧
    ∀ r, getReg16 (setReg16 s r v) r = v

/-- The flag byte (R29): `pack()` is Z*128 + N*64 + Hf*32 + Cf*16, so its low nibble is 0; `unpack(b)` takes
bits 7 to 4 and discards the rest; packing and unpacking undo each other up to the low nibble. -/
def Obligations.FlagBytePacksTheFourFlags : Prop :=
  (∀ f : Flags, (packFlags f).toNat = f.z.toNat * 128 + f.n.toNat * 64 + f.h.toNat * 32 + f.c.toNat * 16) ∧
    (∀ f : Flags, unpackFlags (packFlags f) = f) ∧
    (∀ b : Byte, unpackFlags b =
      { z := decide (b.toNat / 128 % 2 = 1), n := decide (b.toNat / 64 % 2 = 1),
        h := decide (b.toNat / 32 % 2 = 1), c := decide (b.toNat / 16 % 2 = 1) }) ∧
    (∀ b : Byte, (packFlags (unpackFlags b)).toNat = b.toNat / 16 * 16)

/-- The five predicates of the flag unit (R30). -/
def Obligations.FlagPredicatesAreTheCarriesOfExactSums : Prop :=
  ∀ a b : Byte,
    isZero a = decide (a.toNat = 0) ∧
    halfCarryAdd a b = decide (a.toNat % 16 + b.toNat % 16 > 15) ∧
    halfCarrySub a b = decide (a.toNat % 16 < b.toNat % 16) ∧
    carryAdd a b = decide (a.toNat + b.toNat > 255) ∧
    carrySub a b = decide (a.toNat < b.toNat)

/-- The three-operand and 16-bit predicates (R32, the spec's decisions D11 and D19), and that with no carry in
they are those of R30. -/
def Obligations.CarryInPredicatesExtendTheTwoOperandOnes : Prop :=
  (∀ (a b : Byte) (c : Bool),
    halfCarryAdd3 a b c = decide (a.toNat % 16 + b.toNat % 16 + c.toNat > 15) ∧
    carryAdd3 a b c = decide (a.toNat + b.toNat + c.toNat > 255) ∧
    halfCarrySub3 a b c = decide (a.toNat % 16 < b.toNat % 16 + c.toNat) ∧
    carrySub3 a b c = decide (a.toNat < b.toNat + c.toNat)) ∧
    (∀ x y : Word,
      halfCarryAdd16 x y = decide (x.toNat % 4096 + y.toNat % 4096 > 4095) ∧
      carryAdd16 x y = decide (x.toNat + y.toNat > 65535)) ∧
    (∀ a b : Byte,
      halfCarryAdd3 a b false = halfCarryAdd a b ∧ carryAdd3 a b false = carryAdd a b ∧
      halfCarrySub3 a b false = halfCarrySub a b ∧ carrySub3 a b false = carrySub a b)

/-! ## The bus -/

/-- A byte read by region (20_memory.md R51, R53, R55, R56): storage, the image at offset address - 0x100,
`ConfigError` beyond the image, and the latch as 0x00 or 0x01 (the spec's decision D5). -/
def Obligations.ByteReadFollowsTheRegion : Prop :=
  ∀ (s : State) (a : Word),
    ((a.toNat < 0x100 ∨ (0x8000 ≤ a.toNat ∧ a.toNat < 0xFFFF)) →
      busRead s a = .ok (s.mem.read a.toNat)) ∧
    (0x100 ≤ a.toNat → a.toNat < 0x8000 →
      (a.toNat - 0x100 < s.cfg.image.length →
        ∃ v, s.cfg.image[a.toNat - 0x100]? = some v ∧ busRead s a = .ok v) ∧
      (s.cfg.image.length ≤ a.toNat - 0x100 → busRead s a = .error (.configError a))) ∧
    (a.toNat = 0xFFFF → busRead s a = .ok (if s.ime then 0x01 else 0x00))

/-- A byte write by region (R51, R54, R55, R57): storage; in ROM `AddressError`, or nothing under the policy
`ignore` (the spec's decision D3); in the latch `LATCH_WRITE(v)`, by default bit 0 of the byte (its decision
D5). -/
def Obligations.ByteWriteFollowsTheRegion : Prop :=
  ∀ (s : State) (a : Word) (v : Byte),
    ((a.toNat < 0x100 ∨ (0x8000 ≤ a.toNat ∧ a.toNat < 0xFFFF)) →
      busWrite s a v = .ok { s with mem := s.mem.write a.toNat v }) ∧
    (0x100 ≤ a.toNat → a.toNat < 0x8000 →
      (s.cfg.romWrite = .addressError → busWrite s a v = .error (.addressError a)) ∧
      (s.cfg.romWrite = .ignore → busWrite s a v = .ok s)) ∧
    (a.toNat = 0xFFFF → busWrite s a v = .ok { s with ime := s.cfg.latchWrite.getLsbD v.toNat } ∧
      (s.cfg.latchWrite = defaultLatchWrite →
        busWrite s a v = .ok { s with ime := decide (v.toNat % 2 = 1) }))

/-- A byte stored in mutable storage is what the next read there returns, and every other byte of the bus, the
registers, flags, SP, PC and RUN are as they were (R57, R63, R71). -/
def Obligations.StoredByteIsReadBackAndNothingElseChanges : Prop :=
  ∀ (s t : State) (a : Word) (v : Byte), s.wf = true → isMutable a.toNat = true →
    busWrite s a v = .ok t →
    busRead t a = .ok v ∧ (∀ b, b ≠ a → busRead t b = busRead s b) ∧
      t = { s with mem := t.mem } ∧ t.wf = true

/-- A word access is two byte accesses, the low byte at the address and then the high byte at the next one
modulo 65536; the first that faults is the fault (R58, R59, R60; the wrap is the spec's decision D4). -/
def Obligations.WordAccessIsTwoByteAccesses : Prop :=
  ∀ (s : State) (a v : Word),
    (∀ cause, busRead s a = .error cause → readWord s a = .error cause) ∧
    (∀ lo, busRead s a = .ok lo →
      (∀ cause, busRead s (a + 1) = .error cause → readWord s a = .error cause) ∧
      (∀ hi, busRead s (a + 1) = .ok hi → ∃ w, readWord s a = .ok w ∧ w.toNat = hi.toNat * 256 + lo.toNat)) ∧
    (∀ cause, busWrite s a (BitVec.ofNat 8 (v.toNat % 256)) = .error cause →
      writeWord s a v = .error cause) ∧
    (∀ t, busWrite s a (BitVec.ofNat 8 (v.toNat % 256)) = .ok t →
      writeWord s a v = busWrite t (a + 1) (BitVec.ofNat 8 (v.toNat / 256)))

/-- The word round trip (R73, which the spec derives): a word written and read back is the same exactly for
addresses in [0x0000,0x00FE] and [0x8000,0xFFFD], under the policy that faults writes to ROM. -/
def Obligations.WordRoundTripHoldsExactlyInStorage : Prop :=
  ∀ (s : State) (a : Word), s.wf = true → s.cfg.romWrite = .addressError →
    ((∀ v, ∃ t, writeWord s a v = .ok t ∧ readWord t a = .ok v) ↔
      (a.toNat ≤ 0x00FE ∨ (0x8000 ≤ a.toNat ∧ a.toNat ≤ 0xFFFD)))

/-! ## 8-bit loads -/

/-- `LD` between 8-bit operands (40_load8.md R100, R102, R103): the source is read and the destination
written, PC moves by 1, no flag changes; a (HL) form takes the fault of its access. -/
def Obligations.LoadsBetweenOperands : Prop :=
  (∀ y z : Fin 8, decode [BitVec.ofNat 8 (0x40 + 8 * y.val + z.val)] =
    .instr (ldInstr (opd8Of y.val) (opd8Of z.val)) []) ∧
    (∀ (dst src : Reg8) (s : State), exec (ldInstr (.reg dst) (.reg src)) s =
      .next { s with regs := regsWith s.regs dst (getReg8 s src), pc := s.pc + 1 }) ∧
    (∀ (dst : Reg8) (s : State), OnRead s (getReg16 s .hl) (exec (ldInstr (.reg dst) .atHl) s)
      fun v => { s with regs := regsWith s.regs dst v, pc := s.pc + 1 }) ∧
    (∀ (src : Reg8) (s : State), OnWrite s (getReg16 s .hl) (getReg8 s src)
      (exec (ldInstr .atHl (.reg src)) s) fun t => { t with pc := s.pc + 1 })

/-- `LD r8,d8` and `LD (HL),d8` (R101, R104): every value of d8 is loaded or stored as it is, PC moves by 2,
no flag changes. -/
def Obligations.LoadsOfAnImmediateByte : Prop :=
  (∀ (y : Fin 8) (n : Byte), decode [BitVec.ofNat 8 (8 * y.val + 6), n] =
    .instr (ldImmInstr (opd8Of y.val) n) []) ∧
    (∀ (dst : Reg8) (n : Byte) (s : State), exec (ldImmInstr (.reg dst) n) s =
      .next { s with regs := regsWith s.regs dst n, pc := s.pc + 2 }) ∧
    (∀ (n : Byte) (s : State), OnWrite s (getReg16 s .hl) n (exec (ldImmInstr .atHl n) s)
      fun t => { t with pc := s.pc + 2 })

/-- The loads of A from an address (R105, R106, R109, R111, R113): A becomes the byte there, PC moves by the
length, no flag changes. The high-page forms read [0xFF00,0xFFFF] and never fault. -/
def Obligations.LoadsOfAFromMemory : Prop :=
  decode [0x0A] = .instr .ldAAtBc [] ∧ decode [0x1A] = .instr .ldAAtDe [] ∧
    (∀ lo hi : Byte, decode [0xFA, lo, hi] = .instr (.ldAAtA16 (wordOf hi lo)) []) ∧
    (∀ n : Byte, decode [0xF0, n] = .instr (.ldhAAtA8 n) []) ∧ decode [0xF2] = .instr .ldAAtC [] ∧
    ∀ s : State,
      OnRead s (getReg16 s .bc) (exec .ldAAtBc s)
        (fun v => { s with regs := { s.regs with a := v }, pc := s.pc + 1 }) ∧
      OnRead s (getReg16 s .de) (exec .ldAAtDe s)
        (fun v => { s with regs := { s.regs with a := v }, pc := s.pc + 1 }) ∧
      (∀ nn, OnRead s nn (exec (.ldAAtA16 nn) s)
        fun v => { s with regs := { s.regs with a := v }, pc := s.pc + 3 }) ∧
      (∀ n : Byte, ∃ v, busRead s (BitVec.ofNat 16 (0xFF00 + n.toNat)) = .ok v ∧
        exec (.ldhAAtA8 n) s = .next { s with regs := { s.regs with a := v }, pc := s.pc + 2 }) ∧
      (∃ v, busRead s (BitVec.ofNat 16 (0xFF00 + s.regs.c.toNat)) = .ok v ∧
        exec .ldAAtC s = .next { s with regs := { s.regs with a := v }, pc := s.pc + 1 })

/-- The stores of A to an address (R107, R108, R110, R112, R114): the byte there becomes A, PC moves by the
length, no register or flag changes. The high-page forms never fault. -/
def Obligations.StoresOfAToMemory : Prop :=
  decode [0x02] = .instr .ldAtBcA [] ∧ decode [0x12] = .instr .ldAtDeA [] ∧
    (∀ lo hi : Byte, decode [0xEA, lo, hi] = .instr (.ldAtA16A (wordOf hi lo)) []) ∧
    (∀ n : Byte, decode [0xE0, n] = .instr (.ldhAtA8A n) []) ∧ decode [0xE2] = .instr .ldAtCA [] ∧
    ∀ s : State,
      OnWrite s (getReg16 s .bc) s.regs.a (exec .ldAtBcA s) (fun t => { t with pc := s.pc + 1 }) ∧
      OnWrite s (getReg16 s .de) s.regs.a (exec .ldAtDeA s) (fun t => { t with pc := s.pc + 1 }) ∧
      (∀ nn, OnWrite s nn s.regs.a (exec (.ldAtA16A nn) s) fun t => { t with pc := s.pc + 3 }) ∧
      (∀ n : Byte, ∃ t, busWrite s (BitVec.ofNat 16 (0xFF00 + n.toNat)) s.regs.a = .ok t ∧
        exec (.ldhAtA8A n) s = .next { t with pc := s.pc + 2 }) ∧
      (∃ t, busWrite s (BitVec.ofNat 16 (0xFF00 + s.regs.c.toNat)) s.regs.a = .ok t ∧
        exec .ldAtCA s = .next { t with pc := s.pc + 1 })

/-- The loads and stores of A that move HL (R115 to R118): the access is at the old HL, then HL moves by one
modulo 65536; after a fault HL is not moved. -/
def Obligations.LoadsAndStoresThatMoveHl : Prop :=
  decode [0x22] = .instr .ldAtHlIncA [] ∧ decode [0x32] = .instr .ldAtHlDecA [] ∧
    decode [0x2A] = .instr .ldAAtHlInc [] ∧ decode [0x3A] = .instr .ldAAtHlDec [] ∧
    ∀ s : State,
      OnWrite s (getReg16 s .hl) s.regs.a (exec .ldAtHlIncA s)
        (fun t => { setReg16 t .hl (getReg16 s .hl + 1) with pc := s.pc + 1 }) ∧
      OnWrite s (getReg16 s .hl) s.regs.a (exec .ldAtHlDecA s)
        (fun t => { setReg16 t .hl (getReg16 s .hl - 1) with pc := s.pc + 1 }) ∧
      OnRead s (getReg16 s .hl) (exec .ldAAtHlInc s)
        (fun v => { setReg16 { s with regs := { s.regs with a := v } } .hl (getReg16 s .hl + 1) with
                    pc := s.pc + 1 }) ∧
      OnRead s (getReg16 s .hl) (exec .ldAAtHlDec s)
        (fun v => { setReg16 { s with regs := { s.regs with a := v } } .hl (getReg16 s .hl - 1) with
                    pc := s.pc + 1 })

/-! ## 16-bit loads and the stack -/

/-- `LD r16,d16`, `LD (a16),SP` and `LD SP,HL` (41_load16_stack.md R132, R133, R134): no flag changes, and SP
is stored low byte first. -/
def Obligations.SixteenBitLoads : Prop :=
  (∀ (p : Fin 4) (lo hi : Byte), decode [BitVec.ofNat 8 (0x01 + 16 * p.val), lo, hi] =
    .instr (ld16Instr (reg16Of p.val) (wordOf hi lo)) []) ∧
    (∀ lo hi : Byte, decode [0x08, lo, hi] = .instr (.ldAtA16Sp (wordOf hi lo)) []) ∧
    decode [0xF9] = .instr .ldSpHl [] ∧
    (∀ (r : Reg16) (nn : Word) (s : State),
      exec (ld16Instr r nn) s = .next { setReg16 s r nn with pc := s.pc + 3 }) ∧
    (∀ (nn : Word) (s : State),
      (∀ t, writeWord s nn s.sp = .ok t → exec (.ldAtA16Sp nn) s = .next { t with pc := s.pc + 3 }) ∧
      (∀ cause, writeWord s nn s.sp = .error cause →
        exec (.ldAtA16Sp nn) s = .next (faultedAt s cause))) ∧
    (∀ s : State, exec .ldSpHl s = .next { s with sp := getReg16 s .hl, pc := s.pc + 1 })

/-- `LD HL,SP+e8` and `ADD SP,e8` (R135, 43_alu16.md R183): SP plus the signed displacement modulo 65536, with
the flags `0 0 H C` of the unsigned addition of the operand byte to the low byte of SP. -/
def Obligations.StackPointerPlusDisplacement : Prop :=
  (∀ n : Byte, decode [0xF8, n] = .instr (.ldHlSpE8 n) [] ∧ decode [0xE8, n] = .instr (.addSpE8 n) []) ∧
    ∀ (n : Byte) (s : State),
      exec (.ldHlSpE8 n) s = .next { setReg16 s .hl (offsetSp s.sp n) with
                                     flags := offsetFlags s.sp n, pc := s.pc + 2 } ∧
      exec (.addSpE8 n) s = .next { s with sp := offsetSp s.sp n, flags := offsetFlags s.sp n, pc := s.pc + 2 }

/-- `PUSH` and `POP` (R136 to R139): PUSH stores the pair, or A and the packed flags, at SP - 2, low byte
first, and moves SP; POP reads the word at SP into the pair, or into A and the flags, and moves SP by 2. -/
def Obligations.PushAndPop : Prop :=
  (∀ p : Fin 4, decode [BitVec.ofNat 8 (0xC5 + 16 * p.val)] = .instr (pushInstr (stk16Of p.val)) [] ∧
    decode [BitVec.ofNat 8 (0xC1 + 16 * p.val)] = .instr (popInstr (stk16Of p.val)) []) ∧
    ∀ s : State,
      OnPush s (getReg16 s .bc) (exec .pushBc s) (fun t => { t with pc := s.pc + 1 }) ∧
      OnPush s (getReg16 s .de) (exec .pushDe s) (fun t => { t with pc := s.pc + 1 }) ∧
      OnPush s (getReg16 s .hl) (exec .pushHl s) (fun t => { t with pc := s.pc + 1 }) ∧
      OnPush s (wordOf s.regs.a (packFlags s.flags)) (exec .pushAf s) (fun t => { t with pc := s.pc + 1 }) ∧
      OnPop s (exec .popBc s) (fun v => { setReg16 s .bc v with sp := s.sp + 2, pc := s.pc + 1 }) ∧
      OnPop s (exec .popDe s) (fun v => { setReg16 s .de v with sp := s.sp + 2, pc := s.pc + 1 }) ∧
      OnPop s (exec .popHl s) (fun v => { setReg16 s .hl v with sp := s.sp + 2, pc := s.pc + 1 }) ∧
      OnPop s (exec .popAf s) (fun v =>
        { s with regs := { s.regs with a := BitVec.ofNat 8 (v.toNat / 256) }
                 flags := { z := v.getLsbD 7, n := v.getLsbD 6, h := v.getLsbD 5, c := v.getLsbD 4 }
                 sp := s.sp + 2, pc := s.pc + 1 })

/-- Push then pop of the same pair, AF among them, changes nothing but the two stack bytes and PC, when both
stack bytes lie in mutable storage (R137, 70_reset_and_hazards.md R353 d): the pop leaves storage as the push
left it, and the push left every byte of the bus but those at SP - 2 and SP - 1 as it was. -/
def Obligations.PushThenPopIsIdempotent : Prop :=
  ∀ (r : Stk16) (s : State), s.wf = true →
    isMutable (s.sp - 2).toNat = true → isMutable (s.sp - 2 + 1).toNat = true →
    ∃ t, exec (pushInstr r) s = .next t ∧
      exec (popInstr r) t = .next { s with mem := t.mem, pc := s.pc + 1 + 1 } ∧
      ∀ b, b ∉ pushBytes s → busRead t b = busRead s b

/-! ## 8-bit arithmetic and logic -/

/-- `ADD` and `ADC` (42_alu8.md R140 to R145), in the r8, (HL) and d8 forms: A becomes the exact sum modulo 256,
with the flags `Z 0 H C` of the exact sum; a (HL) form takes the fault of its read. -/
def Obligations.AddAndAddWithCarry : Prop :=
  (∀ z : Fin 8, decode [BitVec.ofNat 8 (0x80 + z.val)] = .instr (aluInstr .add (opd8Of z.val)) [] ∧
    decode [BitVec.ofNat 8 (0x88 + z.val)] = .instr (aluInstr .adc (opd8Of z.val)) []) ∧
    (∀ n : Byte, decode [0xC6, n] = .instr (.addAD8 n) [] ∧ decode [0xCE, n] = .instr (.adcAD8 n) []) ∧
    ∀ s : State,
      (∀ src, OnOperand s src (exec (aluInstr .add src) s) fun b => sumIntoA s b false 1) ∧
      (∀ src, OnOperand s src (exec (aluInstr .adc src) s) fun b => sumIntoA s b s.flags.c 1) ∧
      (∀ n, exec (.addAD8 n) s = .next (sumIntoA s n false 2)) ∧
      (∀ n, exec (.adcAD8 n) s = .next (sumIntoA s n s.flags.c 2))

/-- `SUB` and `SBC` (R146 to R151), in the r8, (HL) and d8 forms: A becomes the exact difference modulo 256,
with the flags `Z 1 H C`, C the borrow. -/
def Obligations.SubtractAndSubtractWithCarry : Prop :=
  (∀ z : Fin 8, decode [BitVec.ofNat 8 (0x90 + z.val)] = .instr (aluInstr .sub (opd8Of z.val)) [] ∧
    decode [BitVec.ofNat 8 (0x98 + z.val)] = .instr (aluInstr .sbc (opd8Of z.val)) []) ∧
    (∀ n : Byte, decode [0xD6, n] = .instr (.subD8 n) [] ∧ decode [0xDE, n] = .instr (.sbcAD8 n) []) ∧
    ∀ s : State,
      (∀ src, OnOperand s src (exec (aluInstr .sub src) s) fun b => differenceIntoA s b false 1) ∧
      (∀ src, OnOperand s src (exec (aluInstr .sbc src) s) fun b => differenceIntoA s b s.flags.c 1) ∧
      (∀ n, exec (.subD8 n) s = .next (differenceIntoA s n false 2)) ∧
      (∀ n, exec (.sbcAD8 n) s = .next (differenceIntoA s n s.flags.c 2))

/-- `AND`, `XOR` and `OR` (R152 to R160), in the r8, (HL) and d8 forms: flags `Z 0 1 0` for AND, `Z 0 0 0` for
the others. -/
def Obligations.LogicOperations : Prop :=
  (∀ z : Fin 8, decode [BitVec.ofNat 8 (0xA0 + z.val)] = .instr (aluInstr .and (opd8Of z.val)) [] ∧
    decode [BitVec.ofNat 8 (0xA8 + z.val)] = .instr (aluInstr .xor (opd8Of z.val)) [] ∧
    decode [BitVec.ofNat 8 (0xB0 + z.val)] = .instr (aluInstr .or (opd8Of z.val)) []) ∧
    (∀ n : Byte, decode [0xE6, n] = .instr (.andD8 n) [] ∧ decode [0xEE, n] = .instr (.xorD8 n) [] ∧
      decode [0xF6, n] = .instr (.orD8 n) []) ∧
    ∀ s : State,
      (∀ src, OnOperand s src (exec (aluInstr .and src) s) fun b => logicIntoA s (s.regs.a &&& b) true 1) ∧
      (∀ src, OnOperand s src (exec (aluInstr .xor src) s) fun b => logicIntoA s (s.regs.a ^^^ b) false 1) ∧
      (∀ src, OnOperand s src (exec (aluInstr .or src) s) fun b => logicIntoA s (s.regs.a ||| b) false 1) ∧
      (∀ n, exec (.andD8 n) s = .next (logicIntoA s (s.regs.a &&& n) true 2)) ∧
      (∀ n, exec (.xorD8 n) s = .next (logicIntoA s (s.regs.a ^^^ n) false 2)) ∧
      (∀ n, exec (.orD8 n) s = .next (logicIntoA s (s.regs.a ||| n) false 2))

/-- `CP` (R161 to R163), in the r8, (HL) and d8 forms: the flags of SUB, A not written. -/
def Obligations.CompareSetsTheFlagsOfSubtract : Prop :=
  (∀ z : Fin 8, decode [BitVec.ofNat 8 (0xB8 + z.val)] = .instr (aluInstr .cp (opd8Of z.val)) []) ∧
    (∀ n : Byte, decode [0xFE, n] = .instr (.cpD8 n) []) ∧
    ∀ s : State,
      (∀ src, OnOperand s src (exec (aluInstr .cp src) s)
        fun b => { s with flags := differenceFlags s.regs.a b false, pc := s.pc + 1 }) ∧
      (∀ n, exec (.cpD8 n) s = .next { s with flags := differenceFlags s.regs.a n false, pc := s.pc + 2 })

/-- `INC` and `DEC` of a register and of (HL) (R164 to R167): the byte changes by one modulo 256, flags
`Z 0 H -` and `Z 1 H -`, the carry kept; a (HL) form takes its read's fault before its write's. -/
def Obligations.IncrementAndDecrementByte : Prop :=
  (∀ y : Fin 8, decode [BitVec.ofNat 8 (8 * y.val + 4)] = .instr (inc8Instr (opd8Of y.val)) [] ∧
    decode [BitVec.ofNat 8 (8 * y.val + 5)] = .instr (dec8Instr (opd8Of y.val)) []) ∧
    ∀ (o : Opd8) (s : State),
      OnModify s o (fun v => BitVec.ofNat 8 (v.toNat + 1)) (exec (inc8Instr o) s) (fun v t =>
        { t with flags := { z := decide (v.toNat = 255), n := false, h := decide (v.toNat % 16 = 15),
                            c := s.flags.c }
                 pc := s.pc + 1 }) ∧
      OnModify s o (fun v => BitVec.ofNat 8 (v.toNat + 255)) (exec (dec8Instr o) s) (fun v t =>
        { t with flags := { z := decide (v.toNat = 1), n := true, h := decide (v.toNat % 16 = 0),
                            c := s.flags.c }
                 pc := s.pc + 1 })

/-- `DAA` (R168): after an addition (N = 0) the low digit is corrected by 0x06 and the high digit by 0x60 as
the flags and the digits ask, both tests on A before any correction; after a subtraction the flags alone
decide. Flags `Z - 0 C`. -/
def Obligations.DecimalAdjustFollowsItsAlgorithm : Prop :=
  decode [0x27] = .instr .daa [] ∧
    ∀ s : State,
      let a := s.regs.a.toNat
      let low := s.flags.h ∨ (s.flags.n = false ∧ a % 16 > 9)
      let high := s.flags.c ∨ (s.flags.n = false ∧ a > 0x99)
      ∃ (corr : Nat) (r : Byte),
        corr = (if low then 0x06 else 0) + (if high then 0x60 else 0) ∧
        r = (if s.flags.n then BitVec.ofInt 8 ((a : Int) - corr) else BitVec.ofNat 8 (a + corr)) ∧
        exec .daa s =
          .next { s with regs := { s.regs with a := r }
                         flags := { z := decide (r.toNat = 0), n := s.flags.n, h := false, c := decide high }
                         pc := s.pc + 1 }

/-- `CPL`, `SCF` and `CCF` (R169 to R171): flags `- 1 1 -`, `- 0 0 1` and `- 0 0 C`, C the complement of the
old carry. -/
def Obligations.ComplementAndCarryFlagInstructions : Prop :=
  decode [0x2F] = .instr .cpl [] ∧ decode [0x37] = .instr .scf [] ∧ decode [0x3F] = .instr .ccf [] ∧
    ∀ s : State,
      exec .cpl s = .next { s with regs := { s.regs with a := BitVec.ofNat 8 (255 - s.regs.a.toNat) }
                                   flags := { s.flags with n := true, h := true }, pc := s.pc + 1 } ∧
      exec .scf s = .next { s with flags := { s.flags with n := false, h := false, c := true }
                                   pc := s.pc + 1 } ∧
      exec .ccf s = .next { s with flags := { s.flags with n := false, h := false, c := !s.flags.c }
                                   pc := s.pc + 1 }

/-! ## 16-bit arithmetic -/

/-- `ADD HL,r16` (43_alu16.md R180): the exact sum modulo 65536; flags `- 0 H C`, the carries out of bits 11 and
15; Z is kept whatever the result. -/
def Obligations.AddToHl : Prop :=
  (∀ p : Fin 4, decode [BitVec.ofNat 8 (0x09 + 16 * p.val)] = .instr (addHlInstr (reg16Of p.val)) []) ∧
    ∀ (r : Reg16) (s : State),
      let x := (getReg16 s .hl).toNat
      let y := (getReg16 s r).toNat
      exec (addHlInstr r) s =
        .next { setReg16 s .hl (BitVec.ofNat 16 (x + y)) with
                flags := { z := s.flags.z, n := false, h := decide (x % 4096 + y % 4096 > 4095),
                           c := decide (x + y > 65535) }
                pc := s.pc + 1 }

/-- `INC r16` and `DEC r16` (R181, R182): modulo 65536, no flag written. -/
def Obligations.IncrementAndDecrementPair : Prop :=
  (∀ p : Fin 4, decode [BitVec.ofNat 8 (0x03 + 16 * p.val)] = .instr (inc16Instr (reg16Of p.val)) [] ∧
    decode [BitVec.ofNat 8 (0x0B + 16 * p.val)] = .instr (dec16Instr (reg16Of p.val)) []) ∧
    ∀ (r : Reg16) (s : State),
      exec (inc16Instr r) s =
        .next { setReg16 s r (BitVec.ofNat 16 ((getReg16 s r).toNat + 1)) with pc := s.pc + 1 } ∧
      exec (dec16Instr r) s =
        .next { setReg16 s r (BitVec.ofNat 16 ((getReg16 s r).toNat + 65535)) with pc := s.pc + 1 }

/-! ## Rotates, shifts and bits -/

/-- The four accumulator rotates (44_rotate_shift_bit.md R190 to R193): flags `0 0 0 C`, Z cleared whatever the
result. -/
def Obligations.AccumulatorRotates : Prop :=
  decode [0x07] = .instr .rlca [] ∧ decode [0x0F] = .instr .rrca [] ∧
    decode [0x17] = .instr .rla [] ∧ decode [0x1F] = .instr .rra [] ∧
    ∀ s : State,
      let a := s.regs.a.toNat
      let top := decide (a / 128 = 1)
      let bottom := decide (a % 2 = 1)
      exec .rlca s = .next (rotatedA s (BitVec.ofNat 8 (a * 2 + a / 128)) top) ∧
      exec .rrca s = .next (rotatedA s (BitVec.ofNat 8 (a / 2 + a % 2 * 128)) bottom) ∧
      exec .rla s = .next (rotatedA s (BitVec.ofNat 8 (a * 2 + s.flags.c.toNat)) top) ∧
      exec .rra s = .next (rotatedA s (BitVec.ofNat 8 (a / 2 + s.flags.c.toNat * 128)) bottom)

/-- `RLC`, `RL`, `SLA` and `SWAP` of a register and of (HL) (R194, R195, R198, R199, R202, R203, R206, R207):
flags `Z 0 0 C` with bit 7 going to the carry, and `Z 0 0 0` for SWAP. -/
def Obligations.LeftRotatesShiftsAndSwap : Prop :=
  (∀ z : Fin 8, decode [0xCB, BitVec.ofNat 8 (0x00 + z.val)] = .instr (rotInstr .rlc (opd8Of z.val)) [] ∧
    decode [0xCB, BitVec.ofNat 8 (0x10 + z.val)] = .instr (rotInstr .rl (opd8Of z.val)) [] ∧
    decode [0xCB, BitVec.ofNat 8 (0x20 + z.val)] = .instr (rotInstr .sla (opd8Of z.val)) [] ∧
    decode [0xCB, BitVec.ofNat 8 (0x30 + z.val)] = .instr (rotInstr .swap (opd8Of z.val)) []) ∧
    ∀ (o : Opd8) (s : State),
      OnModify s o (fun v => BitVec.ofNat 8 (v.toNat * 2 + v.toNat / 128)) (exec (rotInstr .rlc o) s)
        (fun v t => { t with flags := rotateFlags (BitVec.ofNat 8 (v.toNat * 2 + v.toNat / 128))
                                        (decide (v.toNat / 128 = 1)), pc := s.pc + 2 }) ∧
      OnModify s o (fun v => BitVec.ofNat 8 (v.toNat * 2 + s.flags.c.toNat)) (exec (rotInstr .rl o) s)
        (fun v t => { t with flags := rotateFlags (BitVec.ofNat 8 (v.toNat * 2 + s.flags.c.toNat))
                                        (decide (v.toNat / 128 = 1)), pc := s.pc + 2 }) ∧
      OnModify s o (fun v => BitVec.ofNat 8 (v.toNat * 2)) (exec (rotInstr .sla o) s)
        (fun v t => { t with flags := rotateFlags (BitVec.ofNat 8 (v.toNat * 2))
                                        (decide (v.toNat / 128 = 1)), pc := s.pc + 2 }) ∧
      OnModify s o (fun v => BitVec.ofNat 8 (v.toNat % 16 * 16 + v.toNat / 16)) (exec (rotInstr .swap o) s)
        (fun v t => { t with flags := rotateFlags (BitVec.ofNat 8 (v.toNat % 16 * 16 + v.toNat / 16)) false
                             pc := s.pc + 2 })

/-- `RRC`, `RR`, `SRA` and `SRL` of a register and of (HL) (R196, R197, R200, R201, R204, R205, R208, R209):
flags `Z 0 0 C` with bit 0 going to the carry. -/
def Obligations.RightRotatesAndShifts : Prop :=
  (∀ z : Fin 8, decode [0xCB, BitVec.ofNat 8 (0x08 + z.val)] = .instr (rotInstr .rrc (opd8Of z.val)) [] ∧
    decode [0xCB, BitVec.ofNat 8 (0x18 + z.val)] = .instr (rotInstr .rr (opd8Of z.val)) [] ∧
    decode [0xCB, BitVec.ofNat 8 (0x28 + z.val)] = .instr (rotInstr .sra (opd8Of z.val)) [] ∧
    decode [0xCB, BitVec.ofNat 8 (0x38 + z.val)] = .instr (rotInstr .srl (opd8Of z.val)) []) ∧
    ∀ (o : Opd8) (s : State),
      OnModify s o (fun v => BitVec.ofNat 8 (v.toNat / 2 + v.toNat % 2 * 128)) (exec (rotInstr .rrc o) s)
        (fun v t => { t with flags := rotateFlags (BitVec.ofNat 8 (v.toNat / 2 + v.toNat % 2 * 128))
                                        (decide (v.toNat % 2 = 1)), pc := s.pc + 2 }) ∧
      OnModify s o (fun v => BitVec.ofNat 8 (v.toNat / 2 + s.flags.c.toNat * 128)) (exec (rotInstr .rr o) s)
        (fun v t => { t with flags := rotateFlags (BitVec.ofNat 8 (v.toNat / 2 + s.flags.c.toNat * 128))
                                        (decide (v.toNat % 2 = 1)), pc := s.pc + 2 }) ∧
      OnModify s o (fun v => BitVec.ofNat 8 (v.toNat / 2 + v.toNat / 128 * 128)) (exec (rotInstr .sra o) s)
        (fun v t => { t with flags := rotateFlags (BitVec.ofNat 8 (v.toNat / 2 + v.toNat / 128 * 128))
                                        (decide (v.toNat % 2 = 1)), pc := s.pc + 2 }) ∧
      OnModify s o (fun v => BitVec.ofNat 8 (v.toNat / 2)) (exec (rotInstr .srl o) s)
        (fun v t => { t with flags := rotateFlags (BitVec.ofNat 8 (v.toNat / 2))
                                        (decide (v.toNat % 2 = 1)), pc := s.pc + 2 })

/-- `BIT` (R210, R211): flags `Z 0 1 -`, Z set exactly when the tested bit is 0; the operand is not written. -/
def Obligations.BitTest : Prop :=
  (∀ b z : Fin 8, decode [0xCB, BitVec.ofNat 8 (0x40 + 8 * b.val + z.val)] =
    .instr (bitInstr b (opd8Of z.val)) []) ∧
    ∀ (b : Fin 8) (o : Opd8) (s : State), OnOperand s o (exec (bitInstr b o) s) fun v =>
      { s with flags := { z := decide (v.toNat / 2 ^ b.val % 2 = 0), n := false, h := true, c := s.flags.c }
               pc := s.pc + 2 }

/-- `RES` and `SET` of a register and of (HL) (R212 to R215): one bit cleared or set, no flag written; a (HL)
form writes back also when the bit already had its value. -/
def Obligations.BitResetAndSet : Prop :=
  (∀ b z : Fin 8, decode [0xCB, BitVec.ofNat 8 (0x80 + 8 * b.val + z.val)] =
      .instr (resInstr b (opd8Of z.val)) [] ∧
    decode [0xCB, BitVec.ofNat 8 (0xC0 + 8 * b.val + z.val)] = .instr (setInstr b (opd8Of z.val)) []) ∧
    ∀ (b : Fin 8) (o : Opd8) (s : State),
      OnModify s o
        (fun v => if v.toNat / 2 ^ b.val % 2 = 1 then BitVec.ofNat 8 (v.toNat - 2 ^ b.val) else v)
        (exec (resInstr b o) s) (fun _ t => { t with pc := s.pc + 2 }) ∧
      OnModify s o
        (fun v => if v.toNat / 2 ^ b.val % 2 = 1 then v else BitVec.ofNat 8 (v.toNat + 2 ^ b.val))
        (exec (setInstr b o) s) (fun _ t => { t with pc := s.pc + 2 })

/-! ## Control transfers -/

/-- The branch conditions (45_control.md R220, 30_encoding.md R88): NZ, Z, NC, C test Z or Cf alone. -/
def Obligations.ConditionsTestOneFlag : Prop :=
  [0, 1, 2, 3].map condOf = [.nz, .z, .nc, .c] ∧
    ∀ f : Flags, condHolds f .nz = decide (f.z = false) ∧ condHolds f .z = decide (f.z = true) ∧
      condHolds f .nc = decide (f.c = false) ∧ condHolds f .c = decide (f.c = true)

/-- The jumps (R221 to R225): PC becomes the operand, HL, or the address after the instruction plus the signed
displacement modulo 65536; a conditional one whose condition is false moves past its operand. Nothing else
changes. -/
def Obligations.JumpsSetPc : Prop :=
  (∀ lo hi : Byte, decode [0xC3, lo, hi] = .instr (.jpA16 (wordOf hi lo)) [] ∧
    ∀ i : Fin 4, decode [BitVec.ofNat 8 (0xC2 + 8 * i.val), lo, hi] =
      .instr (jpInstr (condOf i.val) (wordOf hi lo)) []) ∧
    (∀ n : Byte, decode [0x18, n] = .instr (.jrE8 n) [] ∧
      ∀ i : Fin 4, decode [BitVec.ofNat 8 (0x20 + 8 * i.val), n] = .instr (jrInstr (condOf i.val) n) []) ∧
    decode [0xE9] = .instr .jpHl [] ∧
    ∀ s : State,
      (∀ nn, exec (.jpA16 nn) s = .next { s with pc := nn }) ∧
      (∀ cc nn, exec (jpInstr cc nn) s =
        .next { s with pc := if condHolds s.flags cc then nn else s.pc + 3 }) ∧
      exec .jpHl s = .next { s with pc := getReg16 s .hl } ∧
      (∀ n, exec (.jrE8 n) s =
        .next { s with pc := BitVec.ofInt 16 ((s.pc.toNat : Int) + 2 + signedByte n) }) ∧
      (∀ cc n, exec (jrInstr cc n) s =
        .next { s with pc := if condHolds s.flags cc
                             then BitVec.ofInt 16 ((s.pc.toNat : Int) + 2 + signedByte n)
                             else s.pc + 2 })

/-- The calls and restarts (R226, R230, R231): the address after the instruction is pushed and PC becomes the
target; a conditional call whose condition is false pushes nothing; RST t goes to 8 * y, y from 0 to 6 (the
restarts are the spec's decision D21). -/
def Obligations.CallsPushTheReturnAddress : Prop :=
  (∀ lo hi : Byte, decode [0xCD, lo, hi] = .instr (.callA16 (wordOf hi lo)) [] ∧
    ∀ i : Fin 4, decode [BitVec.ofNat 8 (0xC4 + 8 * i.val), lo, hi] =
      .instr (callInstr (condOf i.val) (wordOf hi lo)) []) ∧
    (∀ y : Fin 8, decode [BitVec.ofNat 8 (0xC7 + 8 * y.val)] = .instr (rstInstr y) []) ∧
    ∀ s : State,
      (∀ nn, OnPush s (s.pc + 3) (exec (.callA16 nn) s) fun t => { t with pc := nn }) ∧
      (∀ cc nn, condHolds s.flags cc = true →
        OnPush s (s.pc + 3) (exec (callInstr cc nn) s) fun t => { t with pc := nn }) ∧
      (∀ cc nn, condHolds s.flags cc = false → exec (callInstr cc nn) s = .next { s with pc := s.pc + 3 }) ∧
      (∀ y : Fin 8, y ≠ 7 → OnPush s (s.pc + 1) (exec (rstInstr y) s)
        fun t => { t with pc := BitVec.ofNat 16 (8 * y.val) }) ∧
      exec (rstInstr 7) s = .next (faultedAt s (.decodeError 0xFF))

/-- The returns (R227 to R229): the word at SP is popped into PC; a conditional one whose condition is false
reads nothing; RETI sets the latch after the pop. -/
def Obligations.ReturnsPopPc : Prop :=
  decode [0xC9] = .instr .ret [] ∧ decode [0xD9] = .instr .reti [] ∧
    (∀ i : Fin 4, decode [BitVec.ofNat 8 (0xC0 + 8 * i.val)] = .instr (retInstr (condOf i.val)) []) ∧
    ∀ s : State,
      OnPop s (exec .ret s) (fun v => { s with sp := s.sp + 2, pc := v }) ∧
      OnPop s (exec .reti s) (fun v => { s with sp := s.sp + 2, pc := v, ime := true }) ∧
      (∀ cc, condHolds s.flags cc = true →
        OnPop s (exec (retInstr cc) s) fun v => { s with sp := s.sp + 2, pc := v }) ∧
      (∀ cc, condHolds s.flags cc = false → exec (retInstr cc) s = .next { s with pc := s.pc + 1 })

/-- Call then return (70_reset_and_hazards.md R353 b, R226): a return from any state whose SP and two stack
bytes are as the call left them restores PC to the instruction following the call and SP to its value
before the call, when both stack bytes lie in mutable storage. -/
def Obligations.CallThenReturnRestoresPcAndSp : Prop :=
  ∀ (s : State) (nn : Word), s.wf = true →
    isMutable (s.sp - 2).toNat = true → isMutable (s.sp - 2 + 1).toNat = true →
    ∃ t, exec (.callA16 nn) s = .next t ∧ t.pc = nn ∧
      ∀ u : State, u.sp = t.sp → (∀ b ∈ pushBytes s, busRead u b = busRead t b) →
        exec .ret u = .next { u with sp := s.sp, pc := s.pc + 3 }

/-! ## System instructions -/

/-- `NOP`, `EI` and `DI` (46_system.md R240 to R242): the latch is set or cleared by the instruction itself
(that EI has no delay is the spec's decision D12), and nothing else but PC changes. -/
def Obligations.NopAndLatchInstructions : Prop :=
  decode [0x00] = .instr .nop [] ∧ decode [0xFB] = .instr .ei [] ∧ decode [0xF3] = .instr .di [] ∧
    ∀ s : State,
      exec .nop s = .next { s with pc := s.pc + 1 } ∧
      exec .ei s = .next { s with ime := true, pc := s.pc + 1 } ∧
      exec .di s = .next { s with ime := false, pc := s.pc + 1 }

/-- `HALT` and `STOP` (R243, R244, the spec's decision D2): a DecodeError naming the opcode under the default
policy; under `nop`, HALT only advances PC by 1, and STOP fetches and ignores its second byte and advances PC
by 2. The two clauses on `primaryAbsent`, that HALT_STOP_POLICY alone decides whether the two bytes are absent,
whatever ABSENT_PRIMARY lists, are the model's choice (DEDUCED, log entry 7). -/
def Obligations.HaltAndStopFollowThePolicy : Prop :=
  decode [0x76] = .instr .haltAbsent [] ∧ decode [0x10] = .instr .stopAbsent [] ∧
    ∀ s : State,
      (primaryAbsent s.cfg 0x76 = true ↔ s.cfg.haltStop = .decodeError) ∧
      (primaryAbsent s.cfg 0x10 = true ↔ s.cfg.haltStop = .decodeError) ∧
      (s.cfg.haltStop = .decodeError →
        exec .haltAbsent s = .next (faultedAt s (.decodeError 0x76)) ∧
        exec .stopAbsent s = .next (faultedAt s (.decodeError 0x10))) ∧
      (s.cfg.haltStop = .nop →
        exec .haltAbsent s = .next { s with pc := s.pc + 1 } ∧
        OnRead s (s.pc + 1) (exec .stopAbsent s) fun _ => { s with pc := s.pc + 2 })

/-- The absent opcodes (46_system.md R246, 30_encoding.md R93, R94; that the twelve take the error under every
choice of ABSENT_PRIMARY is the model's choice, log entry 7): under the default parameters exactly fourteen
bytes miss the primary table and none the extended table; each of the twelve that are absent whatever the
policy is a row whose execution is the DecodeError naming it, changing nothing but RUN; and a step that fetches
any byte in ABSENT_PRIMARY takes that error without reading an operand. -/
def Obligations.AbsentOpcodesTakeDecodeError : Prop :=
  (∀ op : Byte, primaryAbsent defaultConfig op = true ↔ op ∈ defaultAbsentPrimary) ∧
    (∀ op2 : Byte, extendedAbsent defaultConfig op2 = false) ∧
    (∀ row ∈ [((0xD3 : Byte), Instr.absentD3), (0xDB, .absentDB), (0xDD, .absentDD), (0xE3, .absentE3),
        (0xE4, .absentE4), (0xEB, .absentEB), (0xEC, .absentEC), (0xED, .absentED), (0xF4, .absentF4),
        (0xFC, .absentFC), (0xFD, .absentFD), (0xFF, .rst38Absent)],
      row.1 ∈ defaultAbsentPrimary ∧ decode [row.1] = .instr row.2 [] ∧
        ∀ s : State, exec row.2 s = .next (faultedAt s (.decodeError row.1))) ∧
    (∀ (s : State) (op : Byte), s.run = .running → busRead s s.pc = .ok op →
      primaryAbsent s.cfg op = true → step s = .next (faultedAt s (.decodeError op)))

/-- `PREFIX CB` (R245): it has no effect but to select the extended-table entry of the second byte, whose
effect it is; a step at 0xCB is that one instruction; an absent second byte is a DecodeError naming it (the
spec's decision D15); with a register operand it completes, two bytes further on, and touches no memory. -/
def Obligations.EscapeSelectsTheExtendedEntry : Prop :=
  ∀ (s : State) (op2 : Byte),
    (extendedAbsent s.cfg op2 = false → exec (.prefixCb op2) s = exec (extendedEntry op2) s) ∧
    (extendedAbsent s.cfg op2 = true → exec (.prefixCb op2) s = .next (faultedAt s (.decodeError op2))) ∧
    (s.run = .running → busRead s s.pc = .ok 0xCB → primaryAbsent s.cfg 0xCB = false →
      busRead s (s.pc + 1) = .ok op2 → step s = exec (.prefixCb op2) s) ∧
    (extendedAbsent s.cfg op2 = false → op2.toNat % 8 ≠ 6 →
      ∃ t, exec (.prefixCb op2) s = .next t ∧ t.pc = s.pc + 2 ∧ t.run = s.run ∧ t.mem = s.mem ∧
        t.sp = s.sp ∧ t.ime = s.ime ∧ t.cfg = s.cfg)
end

