-- ==== Sys2Proof/Laws/Memory.lean ====
section
/-! SUPPORT. The laws of mutable storage: what a read sees after a write, and that a write keeps the
canonical form and the set of addresses that have a cell. -/

namespace Sys2Proof

/-- A lower starting address is a weaker demand. -/
theorem Memory.wfFrom_mono {lo lo' : Nat} (hle : lo' ≤ lo) :
    ∀ {m : Memory}, Memory.wfFrom lo m = true → Memory.wfFrom lo' m = true
  | [], _ => rfl
  | (k, v) :: m, h => by
    simp only [Memory.wfFrom, Bool.and_eq_true, decide_eq_true_eq] at h ⊢
    exact ⟨⟨by omega, h.1.2⟩, h.2⟩

/-- Below its first address a canonical list reads 0x00. -/
theorem Memory.read_below {lo a : Nat} (ha : a < lo) :
    ∀ {m : Memory}, Memory.wfFrom lo m = true → Memory.read m a = 0
  | [], _ => rfl
  | (k, v) :: m, h => by
    simp only [Memory.wfFrom, Bool.and_eq_true, decide_eq_true_eq] at h
    have hk : ¬ k = a := by omega
    simp only [Memory.read, hk, if_false]
    exact Memory.read_below (lo := k + 1) (by omega) h.2

/-- A write leaves every other address alone, whatever the list. -/
theorem Memory.read_write_other {a b : Nat} (hab : b ≠ a) (v : Byte) :
    ∀ (m : Memory), Memory.read (Memory.write m a v) b = Memory.read m b
  | [] => by
    simp only [Memory.write]
    split <;> simp [Memory.read, Ne.symm hab]
  | (k, x) :: m => by
    simp only [Memory.write]
    split
    · split <;> simp [Memory.read, Ne.symm hab]
    · split
      · rename_i h
        subst h
        split <;> simp [Memory.read, Ne.symm hab]
      · simp only [Memory.read, Memory.read_write_other hab v m]

/-- In a canonical list an address reads back what was written to it. -/
theorem Memory.read_write_same {a : Nat} (v : Byte) :
    ∀ {m : Memory} {lo : Nat}, Memory.wfFrom lo m = true → Memory.read (Memory.write m a v) a = v
  | [], _, _ => by
    simp only [Memory.write]
    split <;> simp_all [Memory.read]
  | (k, x) :: m, lo, h => by
    have h' := h
    simp only [Memory.wfFrom, Bool.and_eq_true, decide_eq_true_eq] at h'
    simp only [Memory.write]
    split
    · rename_i hlt
      split
      · rename_i hv
        have hk : ¬ k = a := by omega
        subst hv
        simp only [Memory.read, hk, if_false]
        exact Memory.read_below (lo := k + 1) (by omega) h'.2
      · simp [Memory.read]
    · split
      · rename_i hak
        split
        · rename_i hv
          subst hv
          exact Memory.read_below (lo := k + 1) (by omega) h'.2
        · simp [Memory.read]
      · rename_i hak
        have hk : ¬ k = a := fun e => hak e.symm
        simp only [Memory.read, hk, if_false]
        exact Memory.read_write_same v h'.2

/-- A write at or above the starting address keeps the canonical form. -/
theorem Memory.write_wfFrom {a : Nat} (v : Byte) :
    ∀ {m : Memory} {lo : Nat}, lo ≤ a → Memory.wfFrom lo m = true →
      Memory.wfFrom lo (Memory.write m a v) = true
  | [], lo, hlo, _ => by
    simp only [Memory.write]
    split
    · rfl
    · rename_i hv
      simpa [Memory.wfFrom, hlo] using hv
  | (k, x) :: m, lo, hlo, h => by
    have h' := h
    simp only [Memory.wfFrom, Bool.and_eq_true, decide_eq_true_eq] at h'
    simp only [Memory.write]
    split
    · rename_i hlt
      split
      · exact h
      · rename_i hv
        simp only [Memory.wfFrom, Bool.and_eq_true, decide_eq_true_eq, bne_iff_ne]
        exact ⟨⟨hlo, hv⟩, ⟨by omega, by simpa using h'.1.2⟩, h'.2⟩
    · split
      · rename_i hak
        split
        · exact Memory.wfFrom_mono (by omega) h'.2
        · rename_i hv
          simp only [Memory.wfFrom, Bool.and_eq_true, decide_eq_true_eq, bne_iff_ne]
          exact ⟨⟨hlo, hv⟩, hak ▸ h'.2⟩
      · simp only [Memory.wfFrom, Bool.and_eq_true, decide_eq_true_eq]
        exact ⟨h'.1, Memory.write_wfFrom v (by omega) h'.2⟩

/-- A write keeps the canonical form. -/
theorem Memory.write_wf {m : Memory} (a : Nat) (v : Byte) (h : m.wf = true) :
    (Memory.write m a v).wf = true :=
  Memory.write_wfFrom v (Nat.zero_le a) h

/-- A write to an address that has a cell lists only addresses that have one. -/
theorem Memory.write_inStorage {a : Nat} (ha : isMutable a = true) (v : Byte) :
    ∀ {m : Memory}, Memory.inStorage m = true → Memory.inStorage (Memory.write m a v) = true
  | [], _ => by
    simp only [Memory.write]
    split <;> simp [Memory.inStorage, ha]
  | (k, x) :: m, h => by
    have h' := h
    simp only [Memory.inStorage, List.all_cons, Bool.and_eq_true] at h'
    simp only [Memory.write]
    split
    · split
      · exact h
      · simp [Memory.inStorage, ha, h'.1, h'.2]
    · split
      · split <;> simp [Memory.inStorage, ha, h'.2]
      · simp only [Memory.inStorage, List.all_cons, Bool.and_eq_true]
        exact ⟨h'.1, Memory.write_inStorage ha v h'.2⟩

end Sys2Proof
end

