-- ==== Sys2Proof/Laws/State.lean ====
section
/-! SUPPORT. One lemma per field per update of the state, true by `rfl`, so that no proof unfolds a record
update. The register-file updates `setReg8`, `setReg16`, `setStk16` follow with what they read back. -/

namespace Sys2Proof.Machine

@[simp] theorem State.setRegs_regs (s : State) (r : Regs) : (s.setRegs r).regs = r := rfl
@[simp] theorem State.setRegs_flags (s : State) (r : Regs) : (s.setRegs r).flags = s.flags := rfl
@[simp] theorem State.setRegs_sp (s : State) (r : Regs) : (s.setRegs r).sp = s.sp := rfl
@[simp] theorem State.setRegs_pc (s : State) (r : Regs) : (s.setRegs r).pc = s.pc := rfl
@[simp] theorem State.setRegs_ime (s : State) (r : Regs) : (s.setRegs r).ime = s.ime := rfl
@[simp] theorem State.setRegs_mem (s : State) (r : Regs) : (s.setRegs r).mem = s.mem := rfl
@[simp] theorem State.setRegs_run (s : State) (r : Regs) : (s.setRegs r).run = s.run := rfl
@[simp] theorem State.setRegs_cfg (s : State) (r : Regs) : (s.setRegs r).cfg = s.cfg := rfl

@[simp] theorem State.setA_regs (s : State) (v : Byte) : (s.setA v).regs = { s.regs with a := v } := rfl
@[simp] theorem State.setA_flags (s : State) (v : Byte) : (s.setA v).flags = s.flags := rfl
@[simp] theorem State.setA_sp (s : State) (v : Byte) : (s.setA v).sp = s.sp := rfl
@[simp] theorem State.setA_pc (s : State) (v : Byte) : (s.setA v).pc = s.pc := rfl
@[simp] theorem State.setA_ime (s : State) (v : Byte) : (s.setA v).ime = s.ime := rfl
@[simp] theorem State.setA_mem (s : State) (v : Byte) : (s.setA v).mem = s.mem := rfl
@[simp] theorem State.setA_run (s : State) (v : Byte) : (s.setA v).run = s.run := rfl
@[simp] theorem State.setA_cfg (s : State) (v : Byte) : (s.setA v).cfg = s.cfg := rfl

@[simp] theorem State.setFlags_regs (s : State) (f : Flags) : (s.setFlags f).regs = s.regs := rfl
@[simp] theorem State.setFlags_flags (s : State) (f : Flags) : (s.setFlags f).flags = f := rfl
@[simp] theorem State.setFlags_sp (s : State) (f : Flags) : (s.setFlags f).sp = s.sp := rfl
@[simp] theorem State.setFlags_pc (s : State) (f : Flags) : (s.setFlags f).pc = s.pc := rfl
@[simp] theorem State.setFlags_ime (s : State) (f : Flags) : (s.setFlags f).ime = s.ime := rfl
@[simp] theorem State.setFlags_mem (s : State) (f : Flags) : (s.setFlags f).mem = s.mem := rfl
@[simp] theorem State.setFlags_run (s : State) (f : Flags) : (s.setFlags f).run = s.run := rfl
@[simp] theorem State.setFlags_cfg (s : State) (f : Flags) : (s.setFlags f).cfg = s.cfg := rfl

@[simp] theorem State.setSp_regs (s : State) (v : Word) : (s.setSp v).regs = s.regs := rfl
@[simp] theorem State.setSp_flags (s : State) (v : Word) : (s.setSp v).flags = s.flags := rfl
@[simp] theorem State.setSp_sp (s : State) (v : Word) : (s.setSp v).sp = v := rfl
@[simp] theorem State.setSp_pc (s : State) (v : Word) : (s.setSp v).pc = s.pc := rfl
@[simp] theorem State.setSp_ime (s : State) (v : Word) : (s.setSp v).ime = s.ime := rfl
@[simp] theorem State.setSp_mem (s : State) (v : Word) : (s.setSp v).mem = s.mem := rfl
@[simp] theorem State.setSp_run (s : State) (v : Word) : (s.setSp v).run = s.run := rfl
@[simp] theorem State.setSp_cfg (s : State) (v : Word) : (s.setSp v).cfg = s.cfg := rfl

@[simp] theorem State.setPc_regs (s : State) (v : Word) : (s.setPc v).regs = s.regs := rfl
@[simp] theorem State.setPc_flags (s : State) (v : Word) : (s.setPc v).flags = s.flags := rfl
@[simp] theorem State.setPc_sp (s : State) (v : Word) : (s.setPc v).sp = s.sp := rfl
@[simp] theorem State.setPc_pc (s : State) (v : Word) : (s.setPc v).pc = v := rfl
@[simp] theorem State.setPc_ime (s : State) (v : Word) : (s.setPc v).ime = s.ime := rfl
@[simp] theorem State.setPc_mem (s : State) (v : Word) : (s.setPc v).mem = s.mem := rfl
@[simp] theorem State.setPc_run (s : State) (v : Word) : (s.setPc v).run = s.run := rfl
@[simp] theorem State.setPc_cfg (s : State) (v : Word) : (s.setPc v).cfg = s.cfg := rfl

@[simp] theorem State.setIme_regs (s : State) (v : Bool) : (s.setIme v).regs = s.regs := rfl
@[simp] theorem State.setIme_flags (s : State) (v : Bool) : (s.setIme v).flags = s.flags := rfl
@[simp] theorem State.setIme_sp (s : State) (v : Bool) : (s.setIme v).sp = s.sp := rfl
@[simp] theorem State.setIme_pc (s : State) (v : Bool) : (s.setIme v).pc = s.pc := rfl
@[simp] theorem State.setIme_ime (s : State) (v : Bool) : (s.setIme v).ime = v := rfl
@[simp] theorem State.setIme_mem (s : State) (v : Bool) : (s.setIme v).mem = s.mem := rfl
@[simp] theorem State.setIme_run (s : State) (v : Bool) : (s.setIme v).run = s.run := rfl
@[simp] theorem State.setIme_cfg (s : State) (v : Bool) : (s.setIme v).cfg = s.cfg := rfl

@[simp] theorem State.setMem_regs (s : State) (m : Memory) : (s.setMem m).regs = s.regs := rfl
@[simp] theorem State.setMem_flags (s : State) (m : Memory) : (s.setMem m).flags = s.flags := rfl
@[simp] theorem State.setMem_sp (s : State) (m : Memory) : (s.setMem m).sp = s.sp := rfl
@[simp] theorem State.setMem_pc (s : State) (m : Memory) : (s.setMem m).pc = s.pc := rfl
@[simp] theorem State.setMem_ime (s : State) (m : Memory) : (s.setMem m).ime = s.ime := rfl
@[simp] theorem State.setMem_mem (s : State) (m : Memory) : (s.setMem m).mem = m := rfl
@[simp] theorem State.setMem_run (s : State) (m : Memory) : (s.setMem m).run = s.run := rfl
@[simp] theorem State.setMem_cfg (s : State) (m : Memory) : (s.setMem m).cfg = s.cfg := rfl

@[simp] theorem State.setRun_regs (s : State) (r : RunState) : (s.setRun r).regs = s.regs := rfl
@[simp] theorem State.setRun_flags (s : State) (r : RunState) : (s.setRun r).flags = s.flags := rfl
@[simp] theorem State.setRun_sp (s : State) (r : RunState) : (s.setRun r).sp = s.sp := rfl
@[simp] theorem State.setRun_pc (s : State) (r : RunState) : (s.setRun r).pc = s.pc := rfl
@[simp] theorem State.setRun_ime (s : State) (r : RunState) : (s.setRun r).ime = s.ime := rfl
@[simp] theorem State.setRun_mem (s : State) (r : RunState) : (s.setRun r).mem = s.mem := rfl
@[simp] theorem State.setRun_run (s : State) (r : RunState) : (s.setRun r).run = r := rfl
@[simp] theorem State.setRun_cfg (s : State) (r : RunState) : (s.setRun r).cfg = s.cfg := rfl

@[simp] theorem State.raise_regs (s : State) (c : FaultCause) : (s.raise c).regs = s.regs := rfl
@[simp] theorem State.raise_flags (s : State) (c : FaultCause) : (s.raise c).flags = s.flags := rfl
@[simp] theorem State.raise_sp (s : State) (c : FaultCause) : (s.raise c).sp = s.sp := rfl
@[simp] theorem State.raise_pc (s : State) (c : FaultCause) : (s.raise c).pc = s.pc := rfl
@[simp] theorem State.raise_ime (s : State) (c : FaultCause) : (s.raise c).ime = s.ime := rfl
@[simp] theorem State.raise_mem (s : State) (c : FaultCause) : (s.raise c).mem = s.mem := rfl
@[simp] theorem State.raise_run (s : State) (c : FaultCause) : (s.raise c).run = .faulted c s.pc := rfl
@[simp] theorem State.raise_cfg (s : State) (c : FaultCause) : (s.raise c).cfg = s.cfg := rfl

@[simp] theorem setReg8_regs (s : State) (r : Reg8) (v : Byte) : (setReg8 s r v).regs = regsWith s.regs r v := rfl
@[simp] theorem setReg8_flags (s : State) (r : Reg8) (v : Byte) : (setReg8 s r v).flags = s.flags := rfl
@[simp] theorem setReg8_sp (s : State) (r : Reg8) (v : Byte) : (setReg8 s r v).sp = s.sp := rfl
@[simp] theorem setReg8_pc (s : State) (r : Reg8) (v : Byte) : (setReg8 s r v).pc = s.pc := rfl
@[simp] theorem setReg8_ime (s : State) (r : Reg8) (v : Byte) : (setReg8 s r v).ime = s.ime := rfl
@[simp] theorem setReg8_mem (s : State) (r : Reg8) (v : Byte) : (setReg8 s r v).mem = s.mem := rfl
@[simp] theorem setReg8_run (s : State) (r : Reg8) (v : Byte) : (setReg8 s r v).run = s.run := rfl
@[simp] theorem setReg8_cfg (s : State) (r : Reg8) (v : Byte) : (setReg8 s r v).cfg = s.cfg := rfl

@[simp] theorem setReg16_flags (s : State) (r : Reg16) (v : Word) : (setReg16 s r v).flags = s.flags := by
  cases r <;> rfl
@[simp] theorem setReg16_pc (s : State) (r : Reg16) (v : Word) : (setReg16 s r v).pc = s.pc := by
  cases r <;> rfl
@[simp] theorem setReg16_ime (s : State) (r : Reg16) (v : Word) : (setReg16 s r v).ime = s.ime := by
  cases r <;> rfl
@[simp] theorem setReg16_mem (s : State) (r : Reg16) (v : Word) : (setReg16 s r v).mem = s.mem := by
  cases r <;> rfl
@[simp] theorem setReg16_run (s : State) (r : Reg16) (v : Word) : (setReg16 s r v).run = s.run := by
  cases r <;> rfl
@[simp] theorem setReg16_cfg (s : State) (r : Reg16) (v : Word) : (setReg16 s r v).cfg = s.cfg := by
  cases r <;> rfl

@[simp] theorem setStk16_sp (s : State) (r : Stk16) (v : Word) : (setStk16 s r v).sp = s.sp := by
  cases r <;> rfl
@[simp] theorem setStk16_pc (s : State) (r : Stk16) (v : Word) : (setStk16 s r v).pc = s.pc := by
  cases r <;> rfl
@[simp] theorem setStk16_ime (s : State) (r : Stk16) (v : Word) : (setStk16 s r v).ime = s.ime := by
  cases r <;> rfl
@[simp] theorem setStk16_mem (s : State) (r : Stk16) (v : Word) : (setStk16 s r v).mem = s.mem := by
  cases r <;> rfl
@[simp] theorem setStk16_run (s : State) (r : Stk16) (v : Word) : (setStk16 s r v).run = s.run := by
  cases r <;> rfl
@[simp] theorem setStk16_cfg (s : State) (r : Stk16) (v : Word) : (setStk16 s r v).cfg = s.cfg := by
  cases r <;> rfl

/-- A register reads back what was written to it. -/
@[simp] theorem getReg8_setReg8 (s : State) (r : Reg8) (v : Byte) : getReg8 (setReg8 s r v) r = v := by
  cases r <;> rfl

/-- Writing one register leaves every other as it was. -/
theorem getReg8_setReg8_ne (s : State) (r q : Reg8) (v : Byte) (h : q ≠ r) :
    getReg8 (setReg8 s r v) q = getReg8 s q := by
  cases r <;> cases q <;> first | rfl | exact absurd rfl h

/-- The low half of `hi ++ lo`. -/
@[simp] theorem loByte_wordOf (hi lo : Byte) : loByte (wordOf hi lo) = lo := by
  apply BitVec.eq_of_getLsbD_eq
  intro i hlt
  simp only [loByte, wordOf, BitVec.getLsbD_extractLsb', Nat.zero_add]
  rw [BitVec.getLsbD_append]
  simp [hlt]

/-- The high half of `hi ++ lo`. -/
@[simp] theorem hiByte_wordOf (hi lo : Byte) : hiByte (wordOf hi lo) = hi := by
  apply BitVec.eq_of_getLsbD_eq
  intro i hlt
  simp only [hiByte, wordOf, BitVec.getLsbD_extractLsb']
  rw [BitVec.getLsbD_append]
  simp [hlt]

/-- The two halves of a word make it up again. -/
@[simp] theorem wordOf_halves (w : Word) : wordOf (hiByte w) (loByte w) = w := by
  apply BitVec.eq_of_getLsbD_eq
  intro i hi
  simp only [hiByte, loByte, wordOf, BitVec.getLsbD_append, BitVec.getLsbD_extractLsb']
  split <;> rename_i h
  · simp [h]
  · have h8 : i - 8 < 8 := by omega
    have hi' : 8 + (i - 8) = i := by omega
    simp [h8, hi']

/-- A pair, or SP, reads back what was written to it. -/
@[simp] theorem getReg16_setReg16 (s : State) (r : Reg16) (v : Word) :
    getReg16 (setReg16 s r v) r = v := by
  cases r <;> simp [getReg16, setReg16]

end Sys2Proof.Machine
end

