-- ==== Sys2Proof/Laws/Bus.lean ====
section
/-! SUPPORT. One lemma per shared operation of Machine/Ops.lean and Machine/Operands.lean that says what it
can do, cited by proofs instead of unfolding it. -/

namespace Sys2Proof.Machine

/-! ## Regions -/

theorem regionOf_lowRam {a : Word} (h : a.toNat < 0x100) : regionOf a = .lowRam := by
  simp [regionOf, h]

theorem regionOf_rom {a : Word} (h : 0x100 ≤ a.toNat) (h' : a.toNat < 0x8000) : regionOf a = .rom := by
  have : ¬ a.toNat < 0x100 := by omega
  simp [regionOf, this, h']

theorem regionOf_highRam {a : Word} (h : 0x8000 ≤ a.toNat) (h' : a.toNat < 0xFFFF) :
    regionOf a = .highRam := by
  have h1 : ¬ a.toNat < 0x100 := by omega
  have h2 : ¬ a.toNat < 0x8000 := by omega
  simp [regionOf, h1, h2, h']

theorem regionOf_latch {a : Word} (h : regionOf a = .latch) : a = 0xFFFF := by
  simp only [regionOf] at h
  split at h <;> try contradiction
  split at h <;> try contradiction
  split at h <;> try contradiction
  apply BitVec.eq_of_toNat_eq
  have := a.isLt
  show a.toNat = 0xFFFF
  omega

/-- The two storage regions are exactly the addresses with a cell (10_state.md R36). -/
theorem isMutable_of_region {a : Word} (h : regionOf a = .lowRam ∨ regionOf a = .highRam) :
    isMutable a.toNat = true := by
  simp only [regionOf] at h
  simp only [isMutable, Bool.or_eq_true, Bool.and_eq_true, decide_eq_true_eq]
  by_cases h1 : a.toNat < 0x100
  · exact .inl h1
  · by_cases h2 : a.toNat < 0x8000
    · simp [h1, h2] at h
    · by_cases h3 : a.toNat < 0xFFFF
      · exact .inr ⟨by omega, h3⟩
      · simp [h1, h2, h3] at h

/-! ## What a completed instruction keeps -/

/-- What every write of an instruction keeps: the configuration, RUN, and the invariant of storage. -/
structure Keeps (s t : State) : Prop where
  cfg : t.cfg = s.cfg
  run : t.run = s.run
  wf : s.mem.wf = true → t.mem.wf = true
  inStorage : s.mem.inStorage = true → t.mem.inStorage = true

theorem Keeps.refl (s : State) : Keeps s s := ⟨rfl, rfl, id, id⟩

theorem Keeps.trans {s t u : State} (h : Keeps s t) (h' : Keeps t u) : Keeps s u :=
  ⟨h'.cfg.trans h.cfg, h'.run.trans h.run, h'.wf ∘ h.wf, h'.inStorage ∘ h.inStorage⟩

/-- An update that touches neither storage, RUN nor the configuration keeps them. -/
theorem Keeps.of_fields {s t : State} (hc : t.cfg = s.cfg) (hr : t.run = s.run) (hm : t.mem = s.mem) :
    Keeps s t :=
  ⟨hc, hr, fun h => hm ▸ h, fun h => hm ▸ h⟩

/-! ## The bus -/

/-- A byte write that does not fault: a storage cell is replaced, the write to ROM is discarded, or the
latch is set (20_memory.md R57). -/
theorem busWrite_cases {s t : State} {a : Word} {v : Byte} (h : busWrite s a v = .ok t) :
    ((regionOf a = .lowRam ∨ regionOf a = .highRam) ∧ t = s.setMem (s.mem.write a.toNat v)) ∨
      (regionOf a = .rom ∧ s.cfg.romWrite = .ignore ∧ t = s) ∨
      (regionOf a = .latch ∧ t = s.setIme (latchBit s.cfg v)) := by
  simp only [busWrite] at h
  cases hr : regionOf a <;> simp only [hr] at h
  · cases h; simp
  · cases hp : s.cfg.romWrite <;> simp only [hp] at h
    · cases h
    · cases h; simp
  · cases h; simp
  · cases h; simp

/-- A byte read faults only beyond the image, naming its address (R53, R56). -/
theorem busRead_error {s : State} {a : Word} {c : FaultCause} (h : busRead s a = .error c) :
    regionOf a = .rom ∧ s.cfg.image.length ≤ a.toNat - 0x100 ∧ c = .configError a := by
  simp only [busRead] at h
  cases hr : regionOf a <;> simp only [hr] at h <;> try cases h
  split at h
  · cases h
  · rename_i hn
    cases h
    exact ⟨rfl, by simpa using hn, rfl⟩

/-- A byte write faults only in ROM under the policy `address_error`, naming its address (R54, R57). -/
theorem busWrite_error {s : State} {a : Word} {v : Byte} {c : FaultCause} (h : busWrite s a v = .error c) :
    regionOf a = .rom ∧ s.cfg.romWrite = .addressError ∧ c = .addressError a := by
  simp only [busWrite] at h
  cases hr : regionOf a <;> simp only [hr] at h <;> try cases h
  split at h
  · rename_i hp
    cases h
    exact ⟨rfl, hp, rfl⟩
  · cases h

/-- A byte write touches no register, flag, SP or PC. -/
theorem busWrite_cpu {s t : State} {a : Word} {v : Byte} (h : busWrite s a v = .ok t) :
    t.regs = s.regs ∧ t.flags = s.flags ∧ t.sp = s.sp ∧ t.pc = s.pc := by
  rcases busWrite_cases h with ⟨_, rfl⟩ | ⟨_, _, rfl⟩ | ⟨_, rfl⟩ <;> simp

theorem busWrite_keeps {s t : State} {a : Word} {v : Byte} (h : busWrite s a v = .ok t) : Keeps s t := by
  rcases busWrite_cases h with ⟨hr, rfl⟩ | ⟨_, _, rfl⟩ | ⟨_, rfl⟩
  · exact ⟨rfl, rfl, fun hw => Memory.write_wf _ _ hw,
      fun hs => Memory.write_inStorage (isMutable_of_region hr) _ hs⟩
  · exact Keeps.refl _
  · exact Keeps.of_fields rfl rfl rfl

/-- A byte read depends on storage, the image and the latch alone. -/
theorem busRead_congr {s t : State} (hm : t.mem = s.mem) (hi : t.ime = s.ime) (hc : t.cfg = s.cfg)
    (a : Word) : busRead t a = busRead s a := by
  simp only [busRead, hm, hi, hc]

/-- A byte write leaves every other address as it was, whatever the state. -/
theorem busRead_busWrite_other {s t : State} {a b : Word} {v : Byte} (h : busWrite s a v = .ok t)
    (hb : b ≠ a) : busRead t b = busRead s b := by
  have hn : b.toNat ≠ a.toNat := fun e => hb (BitVec.eq_of_toNat_eq e)
  rcases busWrite_cases h with ⟨hr, rfl⟩ | ⟨_, _, rfl⟩ | ⟨hr, rfl⟩
  · simp only [busRead, State.setMem_mem, State.setMem_cfg, State.setMem_ime, Memory.read_write_other hn]
  · rfl
  · have ha := regionOf_latch hr
    simp only [busRead, State.setIme_mem, State.setIme_cfg, State.setIme_ime]
    cases hrb : regionOf b <;> simp only
    exact absurd ((regionOf_latch hrb).trans ha.symm) hb

/-- A byte stored in a cell of canonical storage reads back. -/
theorem busRead_busWrite_same {s t : State} {a : Word} {v : Byte} (hw : s.mem.wf = true)
    (hr : regionOf a = .lowRam ∨ regionOf a = .highRam) (h : busWrite s a v = .ok t) :
    busRead t a = .ok v := by
  rcases busWrite_cases h with ⟨_, rfl⟩ | ⟨hr', _, rfl⟩ | ⟨hr', rfl⟩
  · rcases hr with hr | hr <;>
      simp only [busRead, hr, State.setMem_mem, Memory.read_write_same v hw]
  · rw [hr'] at hr; rcases hr with hr | hr <;> cases hr
  · rw [hr'] at hr; rcases hr with hr | hr <;> cases hr

/-! ## Words, the stack, operands -/

/-- A word write that does not fault is two byte writes that do not (R59). -/
theorem writeWord_cases {s t : State} {a v : Word} (h : writeWord s a v = .ok t) :
    ∃ u, busWrite s a (loByte v) = .ok u ∧ busWrite u (a + 1) (hiByte v) = .ok t := by
  simp only [writeWord] at h
  cases hu : busWrite s a (loByte v) with
  | error c => rw [hu] at h; cases h
  | ok u => rw [hu] at h; exact ⟨u, rfl, h⟩

theorem writeWord_keeps {s t : State} {a v : Word} (h : writeWord s a v = .ok t) : Keeps s t := by
  obtain ⟨u, h1, h2⟩ := writeWord_cases h
  exact (busWrite_keeps h1).trans (busWrite_keeps h2)

theorem writeWord_cpu {s t : State} {a v : Word} (h : writeWord s a v = .ok t) :
    t.regs = s.regs ∧ t.flags = s.flags ∧ t.sp = s.sp ∧ t.pc = s.pc := by
  obtain ⟨u, h1, h2⟩ := writeWord_cases h
  have e1 := busWrite_cpu h1
  have e2 := busWrite_cpu h2
  exact ⟨e2.1.trans e1.1, e2.2.1.trans e1.2.1, e2.2.2.1.trans e1.2.2.1, e2.2.2.2.trans e1.2.2.2⟩

theorem busRead_writeWord_other {s t : State} {a b v : Word} (h : writeWord s a v = .ok t) (h0 : b ≠ a)
    (h1 : b ≠ a + 1) : busRead t b = busRead s b := by
  obtain ⟨u, hu, ht⟩ := writeWord_cases h
  exact (busRead_busWrite_other ht h1).trans (busRead_busWrite_other hu h0)

/-- A word read that does not fault is two byte reads that do not (R58). -/
theorem readWord_cases {s : State} {a v : Word} (h : readWord s a = .ok v) :
    ∃ lo hi, busRead s a = .ok lo ∧ busRead s (a + 1) = .ok hi ∧ v = wordOf hi lo := by
  simp only [readWord] at h
  cases hl : busRead s a with
  | error c => rw [hl] at h; cases h
  | ok lo =>
    cases hh : busRead s (a + 1) with
    | error c => rw [hl, Except.bind, hh] at h; cases h
    | ok hi => rw [hl, Except.bind, hh] at h; cases h; exact ⟨lo, hi, rfl, rfl, rfl⟩

/-- A push that does not fault stores the word at SP - 2 and moves SP there (41_load16_stack.md R130). -/
theorem push16_cases {s t : State} {v : Word} (h : push16 s v = .ok t) :
    ∃ u, writeWord s (s.sp - 2) v = .ok u ∧ t = u.setSp (s.sp - 2) := by
  simp only [push16] at h
  cases hu : writeWord s (s.sp - 2) v with
  | error c => rw [hu] at h; cases h
  | ok u => rw [hu] at h; cases h; exact ⟨u, rfl, rfl⟩

theorem push16_keeps {s t : State} {v : Word} (h : push16 s v = .ok t) : Keeps s t := by
  obtain ⟨u, hu, rfl⟩ := push16_cases h
  exact (writeWord_keeps hu).trans (Keeps.of_fields rfl rfl rfl)

/-- A pop that does not fault reads the word at SP and moves SP past it (R131). -/
theorem pop16_cases {s : State} {p : Word × State} (h : pop16 s = .ok p) :
    readWord s s.sp = .ok p.1 ∧ p.2 = s.setSp (s.sp + 2) := by
  simp only [pop16] at h
  cases hv : readWord s s.sp with
  | error c => rw [hv] at h; cases h
  | ok v => rw [hv] at h; cases h; exact ⟨rfl, rfl⟩

theorem pop16_keeps {s : State} {p : Word × State} (h : pop16 s = .ok p) : Keeps s p.2 := by
  rw [(pop16_cases h).2]
  exact Keeps.of_fields rfl rfl rfl

theorem writeOpd8_keeps {s t : State} {o : Opd8} {v : Byte} (h : writeOpd8 s o v = .ok t) : Keeps s t := by
  cases o with
  | reg r => cases h; exact Keeps.of_fields rfl rfl rfl
  | atHl => exact busWrite_keeps h

/-! ## The end of an instruction -/

/-- An instruction that ends with `complete` answers a next state: the one it computed, or the state it
began with and the fault taken (60_exceptions.md R306, R307). -/
theorem complete_cases {s t : State} {r : Except FaultCause State} (h : complete s r = .next t) :
    r = .ok t ∨ ∃ c, r = .error c ∧ t = s.raise c := by
  cases r with
  | ok u => cases h; exact .inl rfl
  | error c => cases h; exact .inr ⟨c, rfl, rfl⟩

@[simp] theorem complete_ok (s t : State) : complete s (.ok t) = .next t := rfl

@[simp] theorem complete_error (s : State) (c : FaultCause) : complete s (.error c) = .next (s.raise c) := rfl

@[simp] theorem except_bind_ok {α β : Type} (v : α) (f : α → Except FaultCause β) :
    Except.bind (.ok v) f = f v := rfl

@[simp] theorem except_bind_error {α β : Type} (c : FaultCause) (f : α → Except FaultCause β) :
    Except.bind (.error c) f = .error c := rfl

/-- A bound computation that succeeds does so in both parts. -/
theorem except_bind_eq_ok {α β : Type} {x : Except FaultCause α} {f : α → Except FaultCause β} {b : β}
    (h : x.bind f = .ok b) : ∃ a, x = .ok a ∧ f a = .ok b := by
  cases x with
  | ok a => exact ⟨a, rfl, h⟩
  | error c => cases h

/-- A bound computation that faults does so in its first part, or in its second after the first. -/
theorem except_bind_eq_error {α β : Type} {x : Except FaultCause α} {f : α → Except FaultCause β}
    {c : FaultCause} (h : x.bind f = .error c) : x = .error c ∨ ∃ a, x = .ok a ∧ f a = .error c := by
  cases x with
  | ok a => exact .inr ⟨a, rfl, h⟩
  | error d => cases h; exact .inl rfl

end Sys2Proof.Machine
end

