-- ==== Sys2Proof/Laws/Families.lean ====
section
/-! SUPPORT. One lemma per shared meaning of the family files that says what an instruction built on it can
do: complete, with these bytes stored to and this PC, or take a bus fault and change nothing but RUN. -/

namespace Sys2Proof.Machine

/-- A fault the bus raises, with the condition of its region (20_memory.md R53, R54). -/
def BusFault (s : State) (c : FaultCause) : Prop :=
  (∃ a, regionOf a = .rom ∧ s.cfg.image.length ≤ a.toNat - 0x100 ∧ c = .configError a) ∨
    ∃ a, regionOf a = .rom ∧ s.cfg.romWrite = .addressError ∧ c = .addressError a

/-- `r` is a next state: either everything an instruction may not touch is kept, no byte of the bus outside
`stored` changes and the PC is in `pcs`; or a bus fault is taken. -/
def Ends (s : State) (stored : List Word) (pcs : Word → Prop) (r : Result) : Prop :=
  ∃ t, r = .next t ∧
    ((Keeps s t ∧ (∀ b, b ∉ stored → busRead t b = busRead s b) ∧ pcs t.pc) ∨
      ∃ c, BusFault s c ∧ t = s.raise c)

/-- A computation over the bus: it keeps what an instruction may not touch and stores within `stored`, or it
ends in a bus fault of the state it began in. -/
def Runs (s : State) (stored : List Word) (x : Except FaultCause State) : Prop :=
  (∃ t, x = .ok t ∧ Keeps s t ∧ ∀ b, b ∉ stored → busRead t b = busRead s b) ∨
    ∃ c, x = .error c ∧ BusFault s c

theorem BusFault.of_keeps {s t : State} {c : FaultCause} (hc : t.cfg = s.cfg) (h : BusFault t c) :
    BusFault s c := by
  simpa only [BusFault, hc] using h

theorem busRead_ends (s : State) (a : Word) :
    (∃ v, busRead s a = .ok v) ∨ ∃ c, busRead s a = .error c ∧ BusFault s c := by
  cases h : busRead s a with
  | ok v => exact .inl ⟨v, rfl⟩
  | error c => exact .inr ⟨c, rfl, .inl ⟨a, busRead_error h⟩⟩

theorem busWrite_runs (s : State) (a : Word) (v : Byte) : Runs s [a] (busWrite s a v) := by
  cases h : busWrite s a v with
  | ok t =>
    exact .inl ⟨t, rfl, busWrite_keeps h, fun b hb => busRead_busWrite_other h (by simpa using hb)⟩
  | error c => exact .inr ⟨c, rfl, .inr ⟨a, busWrite_error h⟩⟩

/-- Setting the latch leaves every byte but 0xFFFF as it was. -/
theorem busRead_latch_other {s t : State} (hm : t.mem = s.mem) (hc : t.cfg = s.cfg) {b : Word}
    (hb : b ∉ [(0xFFFF : Word)]) : busRead t b = busRead s b := by
  simp only [busRead, hm, hc]
  cases hr : regionOf b <;> simp only
  exact absurd (List.mem_singleton.2 (regionOf_latch hr)) hb

theorem readWord_ends (s : State) (a : Word) :
    (∃ v, readWord s a = .ok v) ∨ ∃ c, readWord s a = .error c ∧ BusFault s c := by
  rcases busRead_ends s a with ⟨lo, hl⟩ | ⟨c, hl, hc⟩
  · rcases busRead_ends s (a + 1) with ⟨hi, hh⟩ | ⟨c, hh, hc⟩
    · exact .inl ⟨wordOf hi lo, by simp only [readWord, hl, hh, except_bind_ok]⟩
    · exact .inr ⟨c, by simp only [readWord, hl, hh, except_bind_ok, except_bind_error], hc⟩
  · exact .inr ⟨c, by simp only [readWord, hl, except_bind_error], hc⟩

theorem writeWord_runs (s : State) (a v : Word) : Runs s [a, a + 1] (writeWord s a v) := by
  rcases busWrite_runs s a (loByte v) with ⟨u, hu, hk, hf⟩ | ⟨c, hu, hc⟩
  · rcases busWrite_runs u (a + 1) (hiByte v) with ⟨t, ht, hk', hf'⟩ | ⟨c, ht, hc⟩
    · refine .inl ⟨t, by simp only [writeWord, hu, ht, except_bind_ok], hk.trans hk', fun b hb => ?_⟩
      simp only [List.mem_cons, List.not_mem_nil, or_false, not_or] at hb
      exact (hf' b (by simpa only [List.mem_singleton] using hb.2)).trans
        (hf b (by simpa only [List.mem_singleton] using hb.1))
    · exact .inr ⟨c, by simp only [writeWord, hu, ht, except_bind_ok], hc.of_keeps hk.cfg⟩
  · exact .inr ⟨c, by simp only [writeWord, hu, except_bind_error], hc⟩

theorem push16_runs (s : State) (v : Word) : Runs s [s.sp - 2, s.sp - 2 + 1] (push16 s v) := by
  rcases writeWord_runs s (s.sp - 2) v with ⟨u, hu, hk, hf⟩ | ⟨c, hu, hc⟩
  · exact .inl ⟨u.setSp (s.sp - 2), by simp only [push16, hu, except_bind_ok],
      hk.trans (Keeps.of_fields rfl rfl rfl), hf⟩
  · exact .inr ⟨c, by simp only [push16, hu, except_bind_error], hc⟩

theorem pop16_ends (s : State) :
    (∃ v, pop16 s = .ok (v, s.setSp (s.sp + 2))) ∨ ∃ c, pop16 s = .error c ∧ BusFault s c := by
  rcases readWord_ends s s.sp with ⟨v, hv⟩ | ⟨c, hv, hc⟩
  · exact .inl ⟨v, by simp only [pop16, hv, except_bind_ok]⟩
  · exact .inr ⟨c, by simp only [pop16, hv, except_bind_error], hc⟩

theorem readOpd8_ends (s : State) (o : Opd8) :
    (∃ v, readOpd8 s o = .ok v) ∨ ∃ c, readOpd8 s o = .error c ∧ BusFault s c := by
  cases o with
  | reg r => exact .inl ⟨_, rfl⟩
  | atHl => exact busRead_ends s _

theorem writeOpd8_runs (s : State) (o : Opd8) (v : Byte) : Runs s (operandBytes s o) (writeOpd8 s o v) := by
  cases o with
  | reg r => exact .inl ⟨_, rfl, Keeps.of_fields rfl rfl rfl, fun _ _ => rfl⟩
  | atHl => exact busWrite_runs s _ v

/-! ## Ends -/

/-- An instruction that touches no storage and ends at once. -/
theorem Ends.pure {s t : State} {pcs : Word → Prop} (hc : t.cfg = s.cfg) (hr : t.run = s.run)
    (hm : t.mem = s.mem) (hi : t.ime = s.ime) (hp : pcs t.pc) : Ends s [] pcs (.next t) :=
  ⟨t, rfl, .inl ⟨Keeps.of_fields hc hr hm, fun b _ => busRead_congr hm hi hc b, hp⟩⟩

theorem Ends.error {s : State} {stored : List Word} {pcs : Word → Prop} {c : FaultCause} (h : BusFault s c) :
    Ends s stored pcs (complete s (.error c)) :=
  ⟨_, rfl, .inr ⟨c, h, rfl⟩⟩

/-- An instruction that reads an operand and then ends without a store. -/
theorem Ends.of_read {s : State} {pcs : Word → Prop} {α : Type} {x : Except FaultCause α} {f : α → State}
    (hx : (∃ v, x = .ok v) ∨ ∃ c, x = .error c ∧ BusFault s c)
    (hf : ∀ v, Ends s [] pcs (.next (f v))) : Ends s [] pcs (complete s (x.bind fun v => .ok (f v))) := by
  rcases hx with ⟨v, rfl⟩ | ⟨c, rfl, hc⟩
  · exact hf v
  · exact Ends.error hc

/-- An instruction that stores and then updates fields other than storage, the latch, RUN and the
configuration. -/
theorem Ends.of_write {s : State} {stored : List Word} {pcs : Word → Prop} {x : Except FaultCause State}
    {f : State → State} (hx : Runs s stored x)
    (hf : ∀ t, (f t).cfg = t.cfg ∧ (f t).run = t.run ∧ (f t).mem = t.mem ∧ (f t).ime = t.ime ∧ pcs (f t).pc) :
    Ends s stored pcs (complete s (x.bind fun t => .ok (f t))) := by
  rcases hx with ⟨t, rfl, hk, hb⟩ | ⟨c, rfl, hc⟩
  · obtain ⟨h1, h2, h3, h4, h5⟩ := hf t
    exact ⟨f t, rfl, .inl ⟨hk.trans (Keeps.of_fields h1 h2 h3),
      fun b hn => (busRead_congr h3 h4 h1 b).trans (hb b hn), h5⟩⟩
  · exact Ends.error hc

/-- A read of an operand and then an ending that depends on it. -/
theorem Ends.bind {s : State} {stored : List Word} {pcs : Word → Prop} {α : Type} {x : Except FaultCause α}
    {f : α → Except FaultCause State} (hx : (∃ v, x = .ok v) ∨ ∃ c, x = .error c ∧ BusFault s c)
    (hf : ∀ v, Ends s stored pcs (complete s (f v))) : Ends s stored pcs (complete s (x.bind f)) := by
  rcases hx with ⟨v, rfl⟩ | ⟨c, rfl, hc⟩
  · exact hf v
  · exact Ends.error hc

/-! ## The shared meanings, family by family -/

theorem load8_ends (dst src : Opd8) (s : State) :
    Ends s (operandBytes s dst) (· = s.pc + 1) (load8 dst src s) :=
  Ends.bind (readOpd8_ends s src) fun v => by
    rcases writeOpd8_runs s dst v with ⟨t, ht, hk, hb⟩ | ⟨c, hc, hf⟩
    · simp only [ht, except_bind_ok]
      exact ⟨_, rfl, .inl ⟨hk.trans (Keeps.of_fields rfl rfl rfl), hb, rfl⟩⟩
    · simp only [hc, except_bind_error]
      exact Ends.error hf

theorem load8Imm_ends (dst : Opd8) (n : Byte) (s : State) :
    Ends s (operandBytes s dst) (· = s.pc + 2) (load8Imm dst n s) :=
  Ends.of_write (writeOpd8_runs s dst n) fun _ => ⟨rfl, rfl, rfl, rfl, rfl⟩

theorem loadA_ends (a len : Word) (s : State) : Ends s [] (· = s.pc + len) (loadA a len s) :=
  Ends.of_read (busRead_ends s a) fun _ => Ends.pure rfl rfl rfl rfl rfl

theorem storeA_ends (a len : Word) (s : State) : Ends s [a] (· = s.pc + len) (storeA a len s) :=
  Ends.of_write (busWrite_runs s a _) fun _ => ⟨rfl, rfl, rfl, rfl, rfl⟩

theorem loadAStep_ends (d : Word) (s : State) : Ends s [] (· = s.pc + 1) (loadAStep d s) :=
  Ends.of_read (busRead_ends s _) fun _ => Ends.pure rfl rfl rfl rfl rfl

theorem storeAStep_ends (d : Word) (s : State) :
    Ends s [getReg16 s .hl] (· = s.pc + 1) (storeAStep d s) :=
  Ends.of_write (busWrite_runs s _ _) fun _ => ⟨rfl, rfl, rfl, rfl, rfl⟩

theorem load16Imm_ends (r : Reg16) (nn : Word) (s : State) :
    Ends s [] (· = s.pc + 3) (load16Imm r nn s) := by
  cases r <;> exact Ends.pure rfl rfl rfl rfl rfl

theorem storeSp_ends (nn : Word) (s : State) : Ends s [nn, nn + 1] (· = s.pc + 3) (storeSp nn s) :=
  Ends.of_write (writeWord_runs s nn _) fun _ => ⟨rfl, rfl, rfl, rfl, rfl⟩

theorem loadSpHl_ends (s : State) : Ends s [] (· = s.pc + 1) (loadSpHl s) :=
  Ends.pure rfl rfl rfl rfl rfl

theorem loadHlSpOffset_ends (n : Byte) (s : State) : Ends s [] (· = s.pc + 2) (loadHlSpOffset n s) :=
  Ends.pure rfl rfl rfl rfl rfl

theorem push_ends (r : Stk16) (s : State) :
    Ends s [s.sp - 2, s.sp - 2 + 1] (· = s.pc + 1) (push r s) :=
  Ends.of_write (push16_runs s _) fun _ => ⟨rfl, rfl, rfl, rfl, rfl⟩

theorem pop_ends (r : Stk16) (s : State) : Ends s [] (· = s.pc + 1) (pop r s) := by
  rcases pop16_ends s with ⟨v, hv⟩ | ⟨c, hv, hc⟩
  · simp only [pop, hv, except_bind_ok]
    cases r <;> exact Ends.pure rfl rfl rfl rfl rfl
  · simp only [pop, hv, except_bind_error]
    exact Ends.error hc

theorem aluOpd_ends (op : AluOp) (src : Opd8) (s : State) : Ends s [] (· = s.pc + 1) (aluOpd op src s) :=
  Ends.of_read (readOpd8_ends s src) fun _ => Ends.pure rfl rfl rfl rfl rfl

theorem aluImm_ends (op : AluOp) (n : Byte) (s : State) : Ends s [] (· = s.pc + 2) (aluImm op n s) :=
  Ends.pure rfl rfl rfl rfl rfl

theorem inc8_ends (o : Opd8) (s : State) : Ends s (operandBytes s o) (· = s.pc + 1) (inc8 o s) :=
  Ends.bind (readOpd8_ends s o) fun _ =>
    Ends.of_write (writeOpd8_runs s o _) fun _ => ⟨rfl, rfl, rfl, rfl, rfl⟩

theorem dec8_ends (o : Opd8) (s : State) : Ends s (operandBytes s o) (· = s.pc + 1) (dec8 o s) :=
  Ends.bind (readOpd8_ends s o) fun _ =>
    Ends.of_write (writeOpd8_runs s o _) fun _ => ⟨rfl, rfl, rfl, rfl, rfl⟩

theorem decimalAdjust_ends (s : State) : Ends s [] (· = s.pc + 1) (decimalAdjust s) :=
  Ends.pure rfl rfl rfl rfl rfl

theorem complementA_ends (s : State) : Ends s [] (· = s.pc + 1) (complementA s) :=
  Ends.pure rfl rfl rfl rfl rfl

theorem setCarry_ends (s : State) : Ends s [] (· = s.pc + 1) (setCarry s) :=
  Ends.pure rfl rfl rfl rfl rfl

theorem complementCarry_ends (s : State) : Ends s [] (· = s.pc + 1) (complementCarry s) :=
  Ends.pure rfl rfl rfl rfl rfl

theorem addHl_ends (r : Reg16) (s : State) : Ends s [] (· = s.pc + 1) (addHl r s) :=
  Ends.pure rfl rfl rfl rfl rfl

theorem inc16_ends (r : Reg16) (s : State) : Ends s [] (· = s.pc + 1) (inc16 r s) := by
  cases r <;> exact Ends.pure rfl rfl rfl rfl rfl

theorem dec16_ends (r : Reg16) (s : State) : Ends s [] (· = s.pc + 1) (dec16 r s) := by
  cases r <;> exact Ends.pure rfl rfl rfl rfl rfl

theorem addSpOffset_ends (n : Byte) (s : State) : Ends s [] (· = s.pc + 2) (addSpOffset n s) :=
  Ends.pure rfl rfl rfl rfl rfl

theorem rotateA_ends (op : RotOp) (s : State) : Ends s [] (· = s.pc + 1) (rotateA op s) :=
  Ends.pure rfl rfl rfl rfl rfl

theorem rotate_ends (op : RotOp) (o : Opd8) (s : State) :
    Ends s (operandBytes s o) (· = s.pc + 2) (rotate op o s) :=
  Ends.bind (readOpd8_ends s o) fun _ =>
    Ends.of_write (writeOpd8_runs s o _) fun _ => ⟨rfl, rfl, rfl, rfl, rfl⟩

theorem testBit_ends (b : Fin 8) (o : Opd8) (s : State) : Ends s [] (· = s.pc + 2) (testBit b o s) :=
  Ends.of_read (readOpd8_ends s o) fun _ => Ends.pure rfl rfl rfl rfl rfl

theorem resetBit_ends (b : Fin 8) (o : Opd8) (s : State) :
    Ends s (operandBytes s o) (· = s.pc + 2) (resetBit b o s) :=
  Ends.bind (readOpd8_ends s o) fun _ =>
    Ends.of_write (writeOpd8_runs s o _) fun _ => ⟨rfl, rfl, rfl, rfl, rfl⟩

theorem setBit_ends (b : Fin 8) (o : Opd8) (s : State) :
    Ends s (operandBytes s o) (· = s.pc + 2) (setBit b o s) :=
  Ends.bind (readOpd8_ends s o) fun _ =>
    Ends.of_write (writeOpd8_runs s o _) fun _ => ⟨rfl, rfl, rfl, rfl, rfl⟩

theorem jump_ends (nn : Word) (s : State) : Ends s [] (· = nn) (jump nn s) :=
  Ends.pure rfl rfl rfl rfl rfl

theorem jumpIf_ends (cc : Cond) (nn : Word) (s : State) :
    Ends s [] (· = if condHolds s.flags cc then nn else s.pc + 3) (jumpIf cc nn s) := by
  simp only [jumpIf]
  split <;> exact Ends.pure rfl rfl rfl rfl rfl

theorem jumpHl_ends (s : State) : Ends s [] (· = getReg16 s .hl) (jumpHl s) :=
  Ends.pure rfl rfl rfl rfl rfl

theorem jumpRel_ends (n : Byte) (s : State) : Ends s [] (· = s.pc + 2 + sext16 n) (jumpRel n s) :=
  Ends.pure rfl rfl rfl rfl rfl

theorem jumpRelIf_ends (cc : Cond) (n : Byte) (s : State) :
    Ends s [] (· = if condHolds s.flags cc then s.pc + 2 + sext16 n else s.pc + 2) (jumpRelIf cc n s) := by
  simp only [jumpRelIf]
  split <;> exact Ends.pure rfl rfl rfl rfl rfl

theorem call_ends (nn : Word) (s : State) : Ends s (pushBytes s) (· = nn) (call nn s) :=
  Ends.of_write (push16_runs s _) fun _ => ⟨rfl, rfl, rfl, rfl, rfl⟩

theorem callIf_ends (cc : Cond) (nn : Word) (s : State) :
    Ends s (if condHolds s.flags cc then pushBytes s else [])
      (· = if condHolds s.flags cc then nn else s.pc + 3) (callIf cc nn s) := by
  simp only [callIf]
  split
  · exact Ends.of_write (push16_runs s _) fun _ => ⟨rfl, rfl, rfl, rfl, rfl⟩
  · exact Ends.pure rfl rfl rfl rfl rfl

/-- A return goes to the word popped. -/
theorem ret_ends (s : State) : Ends s [] (fun p => readWord s s.sp = .ok p) (ret s) := by
  rcases readWord_ends s s.sp with ⟨v, hv⟩ | ⟨c, hv, hc⟩
  · simp only [ret, pop16, hv, except_bind_ok]
    exact Ends.pure rfl rfl rfl rfl rfl
  · simp only [ret, pop16, hv, except_bind_error]
    exact Ends.error hc

theorem retIf_ends (cc : Cond) (s : State) :
    Ends s [] (fun p => if condHolds s.flags cc then readWord s s.sp = .ok p else p = s.pc + 1)
      (retIf cc s) := by
  simp only [retIf]
  split
  · exact ret_ends s
  · exact Ends.pure rfl rfl rfl rfl rfl

/-- RETI sets the latch, which is the byte at 0xFFFF. -/
theorem retEnable_ends (s : State) :
    Ends s [0xFFFF] (fun p => readWord s s.sp = .ok p) (retEnable s) := by
  rcases readWord_ends s s.sp with ⟨v, hv⟩ | ⟨c, hv, hc⟩
  · simp only [retEnable, pop16, hv, except_bind_ok]
    exact ⟨_, rfl, .inl ⟨Keeps.of_fields rfl rfl rfl, fun b hb => by
      refine busRead_latch_other (s := s) ?_ ?_ hb <;> rfl, rfl⟩⟩
  · simp only [retEnable, pop16, hv, except_bind_error]
    exact Ends.error hc

theorem restart_ends (target : Word) (s : State) : Ends s (pushBytes s) (· = target) (restart target s) :=
  Ends.of_write (push16_runs s _) fun _ => ⟨rfl, rfl, rfl, rfl, rfl⟩

theorem nop_ends (s : State) : Ends s [] (· = s.pc + 1) (nop s) := Ends.pure rfl rfl rfl rfl rfl

theorem enableLatch_ends (s : State) : Ends s [0xFFFF] (· = s.pc + 1) (enableLatch s) :=
  ⟨_, rfl, .inl ⟨Keeps.of_fields rfl rfl rfl, fun _ hb => by
    refine busRead_latch_other (s := s) ?_ ?_ hb <;> rfl, rfl⟩⟩

theorem disableLatch_ends (s : State) : Ends s [0xFFFF] (· = s.pc + 1) (disableLatch s) :=
  ⟨_, rfl, .inl ⟨Keeps.of_fields rfl rfl rfl, fun _ hb => by
    refine busRead_latch_other (s := s) ?_ ?_ hb <;> rfl, rfl⟩⟩

/-- HALT under the policy `nop`. -/
theorem halt_ends (s : State) (h : s.cfg.haltStop = .nop) : Ends s [] (· = s.pc + 1) (halt s) := by
  simp only [halt, h]
  exact Ends.pure rfl rfl rfl rfl rfl

/-- STOP under the policy `nop`. -/
theorem stop_ends (s : State) (h : s.cfg.haltStop = .nop) : Ends s [] (· = s.pc + 2) (stop s) := by
  simp only [stop, h]
  exact Ends.of_read (busRead_ends s _) fun _ => Ends.pure rfl rfl rfl rfl rfl

/-- The escape with a second byte that is present. -/
theorem escape_ends (op2 : Byte) (s : State) (h : extendedAbsent s.cfg op2 = false) :
    Ends s (extendedBytes s op2) (· = s.pc + 2) (escape op2 s) := by
  simp only [escape, h, Bool.false_eq_true, if_false, extendedEffect, extendedBytes]
  generalize fieldX op2 = x
  match x with
  | 0 => exact rotate_ends _ _ s
  | 1 => exact testBit_ends _ _ s
  | 2 => exact resetBit_ends _ _ s
  | n + 3 =>
    rw [if_neg (by omega)]
    exact setBit_ends _ _ s

end Sys2Proof.Machine
end

