-- ==== Sys2Proof/Tests/Slice0.lean ====
section
/-! SUPPORT. Tests of the model on fixed values: the well-formedness smoke test, words of every family written
out from spec/30_encoding.md and spec/opcode_table.json, the vectors of spec/95_test_vectors.md one step
each, and for each obligation with hypotheses a witness that meets them, clause by clause. -/

namespace Sys2Proof.Tests

open Sys2Proof Sys2Proof.Machine

/-! ## Helpers -/

/-- The start state of the vectors: reset with this image at offset 0 (95_test_vectors.md, conventions). -/
def start (image : List Byte) : State := State.resetWith { defaultConfig with image := image }

/-- `start` under `HALT_STOP_POLICY = nop`. -/
def startNop (image : List Byte) : State :=
  State.resetWith { defaultConfig with image := image, haltStop := .nop }

/-- `start` under `ROM_WRITE_POLICY = ignore`. -/
def startIgnore (image : List Byte) : State :=
  State.resetWith { defaultConfig with image := image, romWrite := .ignore }

/-- `start` with one second opcode byte absent. -/
def startAbsent (image : List Byte) (op2 : Byte) : State :=
  State.resetWith { defaultConfig with image := image, absentExtended := [op2] }

/-- A next state, still running, that passes the check. -/
def after (r : Result) (p : State → Bool) : Bool :=
  match r with
  | .next t => t.run == .running && p t
  | _ => false

/-- The fault with this cause, taken at the state's own PC. -/
def takes (r : Result) (cause : FaultCause) : Bool :=
  match r with
  | .next t => t.run == .faulted cause t.pc
  | _ => false

/-! ## Well-formedness and decoding -/

/-- The escape is selected by the decoder, never a decoded instruction of its own. -/
theorem test_escape_is_ill_formed : WellFormed (.prefixCb 0x00) = false := by decide

theorem test_extended_entry_is_well_formed : WellFormed (extendedEntry 0x00) = true := by decide

/-- R91, 00 011 110 and one operand byte: LD E,d8. -/
theorem test_word_ld_e_d8 : decode [0b00011110, 0x7F] = .instr (.ldED8 0x7F) [] := by decide

/-- R91, 01 111 100: LD A,H. -/
theorem test_word_ld_a_h : decode [0b01111100] = .instr .ldAH [] := by decide

/-- R91, 00 11 0001, then the low byte first: LD SP,d16. -/
theorem test_word_ld_sp_d16 : decode [0b00110001, 0x00, 0xD0] = .instr (.ldSpD16 0xD000) [] := by decide

/-- R91, 11 11 0101: PUSH AF. -/
theorem test_word_push_af : decode [0b11110101] = .instr .pushAf [] := by decide

/-- R91, 10 101 111: XOR A. -/
theorem test_word_xor_a : decode [0b10101111] = .instr .xorA [] := by decide

/-- R91, 00 110 100: INC (HL). -/
theorem test_word_inc_at_hl : decode [0b00110100] = .instr .incAtHl [] := by decide

/-- R91, 00 10 1001: ADD HL,HL. -/
theorem test_word_add_hl_hl : decode [0b00101001] = .instr .addHlHl [] := by decide

/-- R92, 00 110 111 after 0xCB: SWAP A. -/
theorem test_word_swap_a : decode [0xCB, 0b00110111] = .instr .swapA [] := by decide

/-- R92, 01 100 101 after 0xCB: BIT 4,L. -/
theorem test_word_bit_4_l : decode [0xCB, 0b01100101] = .instr .bit4L [] := by decide

/-- R91, 110 01 100, then the low byte first: CALL Z,a16. -/
theorem test_word_call_z : decode [0b11001100, 0x00, 0xC0] = .instr (.callZA16 0xC000) [] := by decide

/-- R91, 11 101 111: RST 28H. -/
theorem test_word_rst_28 : decode [0b11101111] = .instr .rst28 [] := by decide

/-- 46_system.md R241: 0xFB is EI. -/
theorem test_word_ei : decode [0xFB] = .instr .ei [] := by decide

/-- 46_system.md R246: 0xDD is one of the undefined opcodes. -/
theorem test_word_absent : decode [0xDD] = .instr .absentDD [] := by decide

/-- Missing bytes are rejected by name. -/
theorem test_missing_bytes : decode [] = .rejected .noOpcode ∧ decode [0xCB] = .rejected .noSecondOpcode ∧
    decode [0xC3, 0x00] = .rejected .noOperand := by decide

/-- Whether the bytes decode to an instruction that the table's encoding gives these same bytes. -/
def rowAgrees (bytes : List Byte) : Bool :=
  match decode bytes with
  | .instr i rest => encode i ++ rest == bytes
  | .rejected _ => false

/-- Every row of the primary table but the escape's, by its word (the encoder is the table's own words). -/
theorem test_primary_rows_0 : (List.range 128).all (fun n => rowAgrees [BitVec.ofNat 8 n, 0x34, 0x12]) = true := by
  decide +kernel

theorem test_primary_rows_1 :
    (List.range 128).all (fun n => rowAgrees [BitVec.ofNat 8 (128 + n), 0x34, 0x12]) = true := by
  decide +kernel

/-- Every row of the extended table by its word. -/
theorem test_extended_rows_0 : (List.range 128).all (fun n => rowAgrees [0xCB, BitVec.ofNat 8 n]) = true := by
  decide +kernel

theorem test_extended_rows_1 :
    (List.range 128).all (fun n => rowAgrees [0xCB, BitVec.ofNat 8 (128 + n)]) = true := by
  decide +kernel

/-- A row's word is numbered as the table numbers it: 0xCB in bits 15..8 of an extended row. -/
theorem test_row_words : decodeTableWord 8 0x7C = some .ldAH ∧ decodeTableWord 16 0xCB37 = some .swapA ∧
    decodeTableWord 8 0xC3 = some (.jpA16 0x0000) ∧ decodeTableWord 24 0x12341E = some (.ldED8 0x34) := by
  decide

/-- A row's word placed at reset runs as the first instruction. -/
theorem test_row_word_runs :
    after (step (State.reset.withFetchWord 8 0xAF)) (fun t => t.regs.a == 0x00 && t.pc == 0x0101) = true ∧
    after (step (State.reset.withFetchWord 16 0xCB37)) (fun t => t.regs.a == 0x10 && t.pc == 0x0102) = true ∧
    takes (step (State.reset.withFetchWord 8 0xDB)) (.decodeError 0xDB) = true := by decide

/-! ## The bus and the host -/

/-- Vector B-1. -/
theorem test_read_word :
    readWord ((start []).setMem [(0xC000, 0x34), (0xC001, 0x12)]) 0xC000 = .ok 0x1234 := by rfl

/-- Vector B-3: the high byte of a word at 0xFFFE goes to the latch. -/
theorem test_word_at_the_latch :
    ((writeWord (start []) 0xFFFE 0xABCD).bind fun t => readWord t 0xFFFE) = .ok 0x01CD := by rfl

/-- Vector B-5. -/
theorem test_word_write_into_rom : writeWord (start []) 0x00FF 0x1234 = .error (.addressError 0x0100) := by rfl

/-- Vector B-7. -/
theorem test_image_reads : busRead (start [0xAF, 0xC3, 0x00, 0x01]) 0x0103 = .ok 0x01 ∧
    busRead (start [0xAF, 0xC3, 0x00, 0x01]) 0x0104 = .error (.configError 0x0104) := ⟨rfl, rfl⟩

/-- Vector B-9: a word that spans LOW-RAM and the image. -/
theorem test_word_spans_regions : readWord ((start [0xAF]).setMem [(0x00FF, 0x11)]) 0x00FF = .ok 0xAF11 := by rfl

/-- 10_state.md R29: the flags at reset, and the low nibble that no flag byte keeps. -/
theorem test_flag_byte : packFlags State.reset.flags = 0xB0 ∧ packFlags (unpackFlags 0x5F) = 0x50 := by decide

/-- Reset meets the invariant. -/
theorem test_reset_wf : State.reset.wf = true := by decide

/-- Storage is canonical: a write of what an unlisted address reads as removes the entry. -/
theorem test_write_zero_removes : Memory.write (Memory.write [] 0xC000 0x5A) 0xC000 0x00 = [] := by decide

/-- The record of a fault (60_exceptions.md R305). -/
theorem test_fault_record :
    (faultedAt (start []) (.configError 0x0100)).faultRecord =
      some { cause := .configError 0x0100, pc := 0x0100, cpu := (start []).cpuView } := by decide

/-! ## Vectors of spec/95_test_vectors.md, one step each -/

/-- Vector L8-1. -/
theorem test_ld_b_a :
    after (step (start [0x47]))
      (fun t => t.regs.b == 0x01 && t.pc == 0x0101) = true := by decide

/-- Vector L8-4. -/
theorem test_ld_e_d8 :
    after (step (start [0x1E, 0x7F]))
      (fun t => t.regs.e == 0x7F && t.pc == 0x0102) = true := by decide

/-- Vector L8-5. -/
theorem test_ld_c_at_hl :
    after (step (setReg16 (start [0x4E]) .hl 0x0100))
      (fun t => t.regs.c == 0x4E && t.pc == 0x0101) = true := by decide

/-- Vector L8-6. -/
theorem test_ld_at_hl_b :
    after (step (setReg16 (setReg8 (start [0x70]) .b 0x5A) .hl 0xC000))
      (fun t => t.pc == 0x0101 && t.mem.read 0xC000 == 0x5A) = true := by decide

/-- Vector L8-7. -/
theorem test_ld_at_hl_a_in_rom :
    takes (step (start [0x77]))
      (.addressError 0x014D) = true := by decide

/-- Vector L8-8. -/
theorem test_ld_at_hl_d8 :
    after (step (setReg16 (start [0x36, 0x99]) .hl 0x8000))
      (fun t => t.pc == 0x0102 && t.mem.read 0x8000 == 0x99) = true := by decide

/-- Vector L8-9. -/
theorem test_ld_a_at_bc :
    after (step (setReg16 ((start [0x0A]).setMem [(0xC123, 0x77)]) .bc 0xC123))
      (fun t => t.regs.a == 0x77 && t.pc == 0x0101) = true := by decide

/-- Vector L8-10. -/
theorem test_ld_at_de_a :
    after (step (setReg16 ((start [0x12]).setA 0xEE) .de 0xD001))
      (fun t => t.pc == 0x0101 && t.mem.read 0xD001 == 0xEE) = true := by decide

/-- Vector L8-12. -/
theorem test_ld_at_a16_a_sets_latch :
    after (step ((start [0xEA, 0xFF, 0xFF]).setA 0x03))
      (fun t => t.pc == 0x0103 && t.ime) = true := by decide

/-- Vector L8-13. -/
theorem test_ld_at_a16_a_clears_latch :
    after (step (((start [0xEA, 0xFF, 0xFF]).setA 0x02).setIme true))
      (fun t => t.pc == 0x0103 && !t.ime) = true := by decide

/-- Vector L8-14. -/
theorem test_ld_a_at_a16_reads_latch :
    after (step (((start [0xFA, 0xFF, 0xFF]).setA 0x77).setIme true))
      (fun t => t.regs.a == 0x01 && t.pc == 0x0103) = true := by decide

/-- Vector L8-15. -/
theorem test_ldh_a_at_a8 :
    after (step ((start [0xF0, 0x44]).setMem [(0xFF44, 0x90)]))
      (fun t => t.regs.a == 0x90 && t.pc == 0x0102) = true := by decide

/-- Vector L8-16. -/
theorem test_ldh_at_a8_a :
    after (step ((start [0xE0, 0x80]).setA 0x3C))
      (fun t => t.pc == 0x0102 && t.mem.read 0xFF80 == 0x3C) = true := by decide

/-- Vector L8-18. -/
theorem test_ld_a_at_c :
    after (step ((start [0xF2]).setMem [(0xFF13, 0xAB)]))
      (fun t => t.regs.a == 0xAB && t.pc == 0x0101) = true := by decide

/-- Vector L8-19. -/
theorem test_ld_at_c_a :
    after (step (setReg8 ((start [0xE2]).setA 0x55) .c 0x80))
      (fun t => t.pc == 0x0101 && t.mem.read 0xFF80 == 0x55) = true := by decide

/-- Vector L8-21. -/
theorem test_ld_at_hl_inc_a_wraps :
    after (step (setReg16 ((start [0x22]).setA 0x01) .hl 0xFFFF))
      (fun t => t.regs.h == 0x00 && t.regs.l == 0x00 && t.pc == 0x0101 && t.ime) = true := by decide

/-- Vector L8-22. -/
theorem test_ld_at_hl_dec_a_wraps :
    after (step (setReg16 ((start [0x32]).setA 0x9A) .hl 0x0000))
      (fun t => t.regs.h == 0xFF && t.regs.l == 0xFF && t.pc == 0x0101 && t.mem.read 0x0000 == 0x9A) = true := by decide

/-- Vector L8-23. -/
theorem test_ld_a_at_hl_inc :
    after (step (setReg16 ((start [0x2A]).setMem [(0xC0FF, 0x56)]) .hl 0xC0FF))
      (fun t => t.regs.a == 0x56 && t.regs.h == 0xC1 && t.regs.l == 0x00 && t.pc == 0x0101) = true := by decide

/-- Vector L8-24. -/
theorem test_ld_a_at_hl_dec :
    after (step (setReg16 ((start [0x3A]).setMem [(0x8000, 0x3C)]) .hl 0x8000))
      (fun t => t.regs.a == 0x3C && t.regs.h == 0x7F && t.regs.l == 0xFF && t.pc == 0x0101) = true := by decide

/-- Vector L16-1. -/
theorem test_ld_bc_d16 :
    after (step (start [0x01, 0x34, 0x12]))
      (fun t => t.regs.b == 0x12 && t.regs.c == 0x34 && t.pc == 0x0103) = true := by decide

/-- Vector L16-3. -/
theorem test_ld_at_a16_sp :
    after (step ((start [0x08, 0x00, 0xC1]).setSp 0xFFF8))
      (fun t => t.pc == 0x0103 && t.mem.read 0xC100 == 0xF8 && t.mem.read 0xC101 == 0xFF) = true := by decide

/-- Vector L16-4. -/
theorem test_ld_at_a16_sp_undone :
    takes (step (start [0x08, 0xFF, 0x00]))
      (.addressError 0x0100) = true := by decide

/-- Vector L16-5. -/
theorem test_ld_sp_hl :
    after (step (setReg16 (start [0xF9]) .hl 0xC000))
      (fun t => t.sp == 0xC000 && t.pc == 0x0101) = true := by decide

/-- Vector L16-6. -/
theorem test_ld_hl_sp_plus :
    after (step (start [0xF8, 0x02]))
      (fun t => packFlags t.flags == 0x30 && t.regs.h == 0x00 && t.regs.l == 0x00 && t.pc == 0x0102) = true := by decide

/-- Vector L16-7. -/
theorem test_ld_hl_sp_minus :
    after (step ((start [0xF8, 0xFF]).setSp 0x0000))
      (fun t => packFlags t.flags == 0x00 && t.regs.h == 0xFF && t.regs.l == 0xFF && t.pc == 0x0102) = true := by decide

/-- Vector L16-10. -/
theorem test_push_hl_wraps :
    after (step ((setReg16 (start [0xE5]) .hl 0xABCD).setSp 0x0001))
      (fun t => t.sp == 0xFFFF && t.pc == 0x0101 && t.ime && t.mem.read 0x0000 == 0xAB) = true := by decide

/-- Vector L16-11. -/
theorem test_push_de_in_rom :
    takes (step ((start [0xD5]).setSp 0x0101))
      (.addressError 0x0100) = true := by decide

/-- Vector L16-13. -/
theorem test_pop_bc_from_latch :
    after (step (((start [0xC1]).setMem [(0xFFFE, 0x77)]).setIme true))
      (fun t => t.regs.b == 0x01 && t.regs.c == 0x77 && t.sp == 0x0000 && t.pc == 0x0101) = true := by decide

/-- Vector L16-14. -/
theorem test_pop_af_drops_low_nibble :
    after (step (((start [0xF1]).setMem [(0xC000, 0xFF), (0xC001, 0x12)]).setSp 0xC000))
      (fun t => t.regs.a == 0x12 && packFlags t.flags == 0xF0 && t.sp == 0xC002 && t.pc == 0x0101) = true := by decide

/-- Vector L16-16. -/
theorem test_push_af :
    after (step (start [0xF5]))
      (fun t => t.sp == 0xFFFC && t.pc == 0x0101 && t.mem.read 0xFFFC == 0xB0 && t.mem.read 0xFFFD
        == 0x01) = true := by decide

/-- Vector A8-1. -/
theorem test_add_a_b :
    after (step (setReg8 (((start [0x80]).setA 0x3A).setFlags (unpackFlags 0x00)) .b 0xC6))
      (fun t => t.regs.a == 0x00 && packFlags t.flags == 0xB0 && t.pc == 0x0101) = true := by decide

/-- Vector A8-3. -/
theorem test_add_a_d8_wraps :
    after (step (((start [0xC6, 0x01]).setA 0xFF).setFlags (unpackFlags 0x00)))
      (fun t => t.regs.a == 0x00 && packFlags t.flags == 0xB0 && t.pc == 0x0102) = true := by decide

/-- Vector A8-5. -/
theorem test_add_a_at_hl :
    after (step (setReg16 ((((start [0x86]).setMem [(0xC000, 0x12)]).setA 0x3C).setFlags (unpackFlags 0x00)) .hl 0xC000))
      (fun t => t.regs.a == 0x4E && packFlags t.flags == 0x00 && t.pc == 0x0101) = true := by decide

/-- Vector A8-6. -/
theorem test_adc_a_e :
    after (step (setReg8 (((start [0x8B]).setA 0xE1).setFlags (unpackFlags 0x10)) .e 0x0F))
      (fun t => t.regs.a == 0xF1 && packFlags t.flags == 0x20 && t.pc == 0x0101) = true := by decide

/-- Vector A8-7. -/
theorem test_adc_a_d8 :
    after (step (((start [0xCE, 0xFF]).setA 0x00).setFlags (unpackFlags 0x10)))
      (fun t => packFlags t.flags == 0xB0 && t.pc == 0x0102) = true := by decide

/-- Vector A8-9. -/
theorem test_sub_e :
    after (step (setReg8 (((start [0x93]).setA 0x3E).setFlags (unpackFlags 0x00)) .e 0x3E))
      (fun t => t.regs.a == 0x00 && packFlags t.flags == 0xC0 && t.pc == 0x0101) = true := by decide

/-- Vector A8-10. -/
theorem test_sub_d8 :
    after (step (((start [0xD6, 0x0F]).setA 0x3E).setFlags (unpackFlags 0x00)))
      (fun t => t.regs.a == 0x2F && packFlags t.flags == 0x60 && t.pc == 0x0102) = true := by decide

/-- Vector A8-11. -/
theorem test_sub_d8_borrow :
    after (step (((start [0xD6, 0x40]).setA 0x3E).setFlags (unpackFlags 0x00)))
      (fun t => t.regs.a == 0xFE && packFlags t.flags == 0x50 && t.pc == 0x0102) = true := by decide

/-- Vector A8-12. -/
theorem test_sbc_a_h :
    after (step (setReg8 (((start [0x9C]).setA 0x3B).setFlags (unpackFlags 0x10)) .h 0x2A))
      (fun t => t.regs.a == 0x10 && packFlags t.flags == 0x40 && t.pc == 0x0101) = true := by decide

/-- Vector A8-13. -/
theorem test_sbc_a_d8 :
    after (step (((start [0xDE, 0xFF]).setA 0x00).setFlags (unpackFlags 0x10)))
      (fun t => packFlags t.flags == 0xF0 && t.pc == 0x0102) = true := by decide

/-- Vector A8-15. -/
theorem test_and_l :
    after (step (setReg8 (((start [0xA5]).setA 0x5A).setFlags (unpackFlags 0x10)) .l 0x3F))
      (fun t => t.regs.a == 0x1A && packFlags t.flags == 0x20 && t.pc == 0x0101) = true := by decide

/-- Vector A8-17. -/
theorem test_xor_a :
    after (step (((start [0xAF]).setA 0x5A).setFlags (unpackFlags 0x70)))
      (fun t => t.regs.a == 0x00 && packFlags t.flags == 0x80 && t.pc == 0x0101) = true := by decide

/-- Vector A8-20. -/
theorem test_or_d8 :
    after (step (((start [0xF6, 0x03]).setA 0x5A).setFlags (unpackFlags 0xF0)))
      (fun t => t.regs.a == 0x5B && packFlags t.flags == 0x00 && t.pc == 0x0102) = true := by decide

/-- Vector A8-21. -/
theorem test_cp_b :
    after (step (setReg8 (((start [0xB8]).setA 0x3C).setFlags (unpackFlags 0x00)) .b 0x2F))
      (fun t => packFlags t.flags == 0x60 && t.pc == 0x0101) = true := by decide

/-- Vector A8-22. -/
theorem test_cp_d8 :
    after (step (((start [0xFE, 0x3C]).setA 0x3C).setFlags (unpackFlags 0x00)))
      (fun t => packFlags t.flags == 0xC0 && t.pc == 0x0102) = true := by decide

/-- Vector A8-24. -/
theorem test_inc_a :
    after (step (((start [0x3C]).setA 0xFF).setFlags (unpackFlags 0x10)))
      (fun t => t.regs.a == 0x00 && packFlags t.flags == 0xB0 && t.pc == 0x0101) = true := by decide

/-- Vector A8-26. -/
theorem test_inc_at_hl :
    after (step (setReg16 (((start [0x34]).setMem [(0xC000, 0x50)]).setFlags (unpackFlags 0x00)) .hl 0xC000))
      (fun t => packFlags t.flags == 0x00 && t.pc == 0x0101 && t.mem.read 0xC000 == 0x51) = true := by decide

/-- Vector A8-28. -/
theorem test_dec_c :
    after (step (setReg8 ((start [0x0D]).setFlags (unpackFlags 0x00)) .c 0x00))
      (fun t => packFlags t.flags == 0x60 && t.regs.c == 0xFF && t.pc == 0x0101) = true := by decide

/-- Vector A8-29. -/
theorem test_dec_at_hl :
    after (step (setReg16 ((start [0x35]).setFlags (unpackFlags 0x10)) .hl 0xC000))
      (fun t => packFlags t.flags == 0x70 && t.pc == 0x0101 && t.mem.read 0xC000 == 0xFF) = true := by decide

/-- Vector A8-30. -/
theorem test_inc_at_hl_in_rom :
    takes (step (start (0x34 :: List.replicate 0x60 0x00)))
      (.addressError 0x014D) = true := by decide

/-- Vector A8-33. -/
theorem test_daa_after_add :
    after (step (((start [0x27]).setA 0x9A).setFlags (unpackFlags 0x00)))
      (fun t => t.regs.a == 0x00 && packFlags t.flags == 0x90 && t.pc == 0x0101) = true := by decide

/-- Vector A8-35. -/
theorem test_daa_after_sub :
    after (step (((start [0x27]).setA 0x00).setFlags (unpackFlags 0x70)))
      (fun t => t.regs.a == 0x9A && packFlags t.flags == 0x50 && t.pc == 0x0101) = true := by decide

/-- Vector A8-36. -/
theorem test_cpl :
    after (step (((start [0x2F]).setA 0x35).setFlags (unpackFlags 0x90)))
      (fun t => t.regs.a == 0xCA && packFlags t.flags == 0xF0 && t.pc == 0x0101) = true := by decide

/-- Vector A8-37. -/
theorem test_scf :
    after (step ((start [0x37]).setFlags (unpackFlags 0xE0)))
      (fun t => packFlags t.flags == 0x90 && t.pc == 0x0101) = true := by decide

/-- Vector A8-38. -/
theorem test_ccf :
    after (step ((start [0x3F]).setFlags (unpackFlags 0xF0)))
      (fun t => packFlags t.flags == 0x80 && t.pc == 0x0101) = true := by decide

/-- Vector A16-1. -/
theorem test_add_hl_bc :
    after (step (setReg16 (setReg16 ((start [0x09]).setFlags (unpackFlags 0x80)) .bc 0x0605) .hl 0x8A23))
      (fun t => packFlags t.flags == 0xA0 && t.regs.h == 0x90 && t.regs.l == 0x28 && t.pc == 0x0101) = true := by decide

/-- Vector A16-3. -/
theorem test_add_hl_de :
    after (step (setReg16 (setReg16 ((start [0x19]).setFlags (unpackFlags 0x00)) .de 0x0001) .hl 0xFFFF))
      (fun t => packFlags t.flags == 0x30 && t.regs.h == 0x00 && t.regs.l == 0x00 && t.pc == 0x0101) = true := by decide

/-- Vector A16-6. -/
theorem test_inc_de :
    after (step (setReg16 (start [0x13]) .de 0x00FF))
      (fun t => t.regs.d == 0x01 && t.regs.e == 0x00 && t.pc == 0x0101) = true := by decide

/-- Vector A16-7. -/
theorem test_dec_hl :
    after (step (setReg16 (start [0x2B]) .hl 0x0000))
      (fun t => packFlags t.flags == 0xB0 && t.regs.h == 0xFF && t.regs.l == 0xFF && t.pc == 0x0101) = true := by decide

/-- Vector A16-9. -/
theorem test_add_sp_e8 :
    after (step ((start [0xE8, 0x02]).setSp 0xFFF8))
      (fun t => packFlags t.flags == 0x00 && t.sp == 0xFFFA && t.pc == 0x0102) = true := by decide

/-- Vector A16-12. -/
theorem test_add_sp_e8_to_zero :
    after (step ((start [0xE8, 0x80]).setSp 0x0080))
      (fun t => packFlags t.flags == 0x10 && t.sp == 0x0000 && t.pc == 0x0102) = true := by decide

/-- Vector RS-1. -/
theorem test_rlca :
    after (step (((start [0x07]).setA 0x85).setFlags (unpackFlags 0x80)))
      (fun t => t.regs.a == 0x0B && packFlags t.flags == 0x10 && t.pc == 0x0101) = true := by decide

/-- Vector RS-3. -/
theorem test_rrca :
    after (step (((start [0x0F]).setA 0x3B).setFlags (unpackFlags 0x00)))
      (fun t => t.regs.a == 0x9D && packFlags t.flags == 0x10 && t.pc == 0x0101) = true := by decide

/-- Vector RS-4. -/
theorem test_rla :
    after (step (((start [0x17]).setA 0x95).setFlags (unpackFlags 0x10)))
      (fun t => t.regs.a == 0x2B && packFlags t.flags == 0x10 && t.pc == 0x0101) = true := by decide

/-- Vector RS-5. -/
theorem test_rra :
    after (step (((start [0x1F]).setA 0x81).setFlags (unpackFlags 0x00)))
      (fun t => t.regs.a == 0x40 && packFlags t.flags == 0x10 && t.pc == 0x0101) = true := by decide

/-- Vector RS-6. -/
theorem test_rlc_b :
    after (step (setReg8 ((start [0xCB, 0x00]).setFlags (unpackFlags 0x00)) .b 0x85))
      (fun t => packFlags t.flags == 0x10 && t.regs.b == 0x0B && t.pc == 0x0102) = true := by decide

/-- Vector RS-8. -/
theorem test_rrc_c :
    after (step (setReg8 ((start [0xCB, 0x09]).setFlags (unpackFlags 0x00)) .c 0x01))
      (fun t => packFlags t.flags == 0x10 && t.regs.c == 0x80 && t.pc == 0x0102) = true := by decide

/-- Vector RS-9. -/
theorem test_rl_l :
    after (step (setReg8 ((start [0xCB, 0x15]).setFlags (unpackFlags 0x00)) .l 0x80))
      (fun t => packFlags t.flags == 0x90 && t.regs.l == 0x00 && t.pc == 0x0102) = true := by decide

/-- Vector RS-12. -/
theorem test_rr_at_hl :
    after (step (setReg16 (((start [0xCB, 0x1E]).setMem [(0xC000, 0x8A)]).setFlags (unpackFlags 0x00)) .hl 0xC000))
      (fun t => packFlags t.flags == 0x00 && t.pc == 0x0102 && t.mem.read 0xC000 == 0x45) = true := by decide

/-- Vector RS-14. -/
theorem test_sla_at_hl :
    after (step (setReg16 (((start [0xCB, 0x26]).setMem [(0xC000, 0xFF)]).setFlags (unpackFlags 0x00)) .hl 0xC000))
      (fun t => packFlags t.flags == 0x10 && t.pc == 0x0102 && t.mem.read 0xC000 == 0xFE) = true := by decide

/-- Vector RS-15. -/
theorem test_sra_a :
    after (step (((start [0xCB, 0x2F]).setA 0x8A).setFlags (unpackFlags 0x00)))
      (fun t => t.regs.a == 0xC5 && packFlags t.flags == 0x00 && t.pc == 0x0102) = true := by decide

/-- Vector RS-17. -/
theorem test_swap_a :
    after (step (((start [0xCB, 0x37]).setA 0xF1).setFlags (unpackFlags 0xF0)))
      (fun t => t.regs.a == 0x1F && packFlags t.flags == 0x00 && t.pc == 0x0102) = true := by decide

/-- Vector RS-20. -/
theorem test_srl_at_hl :
    after (step (setReg16 (((start [0xCB, 0x3E]).setMem [(0xC000, 0xFF)]).setFlags (unpackFlags 0x00)) .hl 0xC000))
      (fun t => packFlags t.flags == 0x10 && t.pc == 0x0102 && t.mem.read 0xC000 == 0x7F) = true := by decide

/-- Vector RS-22. -/
theorem test_bit_4_l :
    after (step (setReg8 ((start [0xCB, 0x65]).setFlags (unpackFlags 0x00)) .l 0xEF))
      (fun t => packFlags t.flags == 0xA0 && t.pc == 0x0102) = true := by decide

/-- Vector RS-23. -/
theorem test_bit_0_at_hl_in_rom :
    after (step (setReg16 ((start [0xCB, 0x46]).setFlags (unpackFlags 0x00)) .hl 0x0100))
      (fun t => packFlags t.flags == 0x20 && t.pc == 0x0102) = true := by decide

/-- Vector RS-25. -/
theorem test_res_3_at_hl :
    after (step (setReg16 ((start [0xCB, 0x9E]).setMem [(0xC000, 0xFF)]) .hl 0xC000))
      (fun t => t.pc == 0x0102 && t.mem.read 0xC000 == 0xF7) = true := by decide

/-- Vector RS-27. -/
theorem test_set_7_at_hl_in_rom :
    takes (step (setReg16 (start [0xCB, 0xFE]) .hl 0x0100))
      (.addressError 0x0100) = true := by decide

/-- Vector RS-28. -/
theorem test_set_1_e :
    after (step (setReg8 (start [0xCB, 0xCB]) .e 0x00))
      (fun t => t.regs.e == 0x02 && t.pc == 0x0102) = true := by decide

/-- Vector CT-1. -/
theorem test_jp_a16 :
    after (step ((start [0xAF, 0xC3, 0x00, 0x01]).setPc 0x0101))
      (fun t => t.pc == 0x0100) = true := by decide

/-- Vector CT-2. -/
theorem test_jp_nz_not_taken :
    after (step ((start [0xC2, 0x00, 0xC0]).setFlags (unpackFlags 0x80)))
      (fun t => packFlags t.flags == 0x80 && t.pc == 0x0103) = true := by decide

/-- Vector CT-3. -/
theorem test_jp_c_taken :
    after (step ((start [0xDA, 0x00, 0xC0]).setFlags (unpackFlags 0x10)))
      (fun t => packFlags t.flags == 0x10 && t.pc == 0xC000) = true := by decide

/-- Vector CT-4. -/
theorem test_jp_hl :
    after (step (setReg16 (start [0xE9]) .hl 0xC010))
      (fun t => t.pc == 0xC010) = true := by decide

/-- Vector CT-6. -/
theorem test_jr_forward :
    after (step (start [0x18, 0x7F]))
      (fun t => t.pc == 0x0181) = true := by decide

/-- Vector CT-7. -/
theorem test_jr_backward :
    after (step (start [0x18, 0x80]))
      (fun t => t.pc == 0x0082) = true := by decide

/-- Vector CT-9. -/
theorem test_jr_z_not_taken :
    after (step ((start [0x28, 0x05]).setFlags (unpackFlags 0x00)))
      (fun t => packFlags t.flags == 0x00 && t.pc == 0x0102) = true := by decide

/-- Vector CT-10. -/
theorem test_jr_nc_taken :
    after (step ((start [0x30, 0x05]).setFlags (unpackFlags 0x00)))
      (fun t => packFlags t.flags == 0x00 && t.pc == 0x0107) = true := by decide

/-- Vector CT-11. -/
theorem test_call :
    after (step (start [0xCD, 0x00, 0xC0]))
      (fun t => t.sp == 0xFFFC && t.pc == 0xC000 && t.mem.read 0xFFFC == 0x03 && t.mem.read 0xFFFD
        == 0x01) = true := by decide

/-- Vector CT-15. -/
theorem test_call_into_rom :
    takes (step ((start [0xCD, 0x00, 0xC0]).setSp 0x0102))
      (.addressError 0x0100) = true := by decide

/-- Vector CT-13. -/
theorem test_call_nz_not_taken :
    after (step ((start [0xC4, 0x00, 0xC0]).setFlags (unpackFlags 0x80)))
      (fun t => packFlags t.flags == 0x80 && t.pc == 0x0103) = true := by decide

/-- Vector CT-14. -/
theorem test_call_z_taken :
    after (step ((start [0xCC, 0x00, 0xC0]).setFlags (unpackFlags 0x80)))
      (fun t => packFlags t.flags == 0x80 && t.sp == 0xFFFC && t.pc == 0xC000 && t.mem.read 0xFFFC
        == 0x03 && t.mem.read 0xFFFD == 0x01) = true := by decide

/-- Vector CT-16. -/
theorem test_ret :
    after (step (((start [0xC9]).setMem [(0xC000, 0x34), (0xC001, 0x12)]).setSp 0xC000))
      (fun t => t.sp == 0xC002 && t.pc == 0x1234) = true := by decide

/-- Vector CT-17. -/
theorem test_ret_nc_not_taken :
    after (step (((start [0xD0]).setFlags (unpackFlags 0x10)).setSp 0xC000))
      (fun t => packFlags t.flags == 0x10 && t.pc == 0x0101) = true := by decide

/-- Vector CT-18. -/
theorem test_ret_z_taken :
    after (step ((((start [0xC8]).setMem [(0xC000, 0x78), (0xC001, 0x56)]).setFlags (unpackFlags 0x80)).setSp 0xC000))
      (fun t => packFlags t.flags == 0x80 && t.sp == 0xC002 && t.pc == 0x5678) = true := by decide

/-- Vector CT-19. -/
theorem test_reti :
    after (step (((start [0xD9]).setMem [(0xC000, 0x03), (0xC001, 0x01)]).setSp 0xC000))
      (fun t => t.sp == 0xC002 && t.pc == 0x0103 && t.ime) = true := by decide

/-- Vector CT-20. -/
theorem test_rst_28 :
    after (step (start [0xEF]))
      (fun t => t.sp == 0xFFFC && t.pc == 0x0028 && t.mem.read 0xFFFC == 0x01 && t.mem.read 0xFFFD
        == 0x01) = true := by decide

/-- Vector SY-1. -/
theorem test_nop :
    after (step (start [0x00]))
      (fun t => t.pc == 0x0101) = true := by decide

/-- Vector SY-3. -/
theorem test_fetch_from_the_latch :
    after (step ((((start []).setMem [(0x0000, 0x34), (0x0001, 0x12)]).setPc 0xFFFF).setIme true))
      (fun t => t.regs.b == 0x12 && t.regs.c == 0x34 && t.pc == 0x0002) = true := by decide

/-- Vector SY-4. -/
theorem test_ei :
    after (step (start [0xFB]))
      (fun t => t.pc == 0x0101 && t.ime) = true := by decide

/-- Vector SY-5. -/
theorem test_di :
    after (step ((start [0xF3]).setIme true))
      (fun t => t.pc == 0x0101 && !t.ime) = true := by decide

/-- Vector SY-7. -/
theorem test_rst_38_absent :
    takes (step (start [0xFF]))
      (.decodeError 0xFF) = true := by decide

/-- Vector SY-8. -/
theorem test_halt_default :
    takes (step (start [0x76]))
      (.decodeError 0x76) = true := by decide

/-- Vector SY-9. -/
theorem test_stop_default :
    takes (step (start [0x10, 0x00]))
      (.decodeError 0x10) = true := by decide

/-- Vector SY-10. -/
theorem test_absent_d3 :
    takes (step (start [0xD3]))
      (.decodeError 0xD3) = true := by decide

/-- Vector SY-21. -/
theorem test_empty_image :
    takes (step (start []))
      (.configError 0x0100) = true := by decide

/-- Vector SY-22. -/
theorem test_operand_beyond_image :
    takes (step (start [0xC3, 0x00]))
      (.configError 0x0102) = true := by decide

/-- Vector SY-23. -/
theorem test_second_opcode_beyond_image :
    takes (step (start [0xCB]))
      (.configError 0x0101) = true := by decide

/-- Vector SY-25. -/
theorem test_fetch_fault_comes_first :
    takes (step (start [0x36]))
      (.configError 0x0101) = true := by decide

/-- Vector SY-29. -/
theorem test_operand_read_though_not_taken :
    takes (step ((start [0xC2, 0x00]).setFlags (unpackFlags 0x80)))
      (.configError 0x0102) = true := by decide

/-- Vector NP-1. -/
theorem test_halt_nop :
    after (step (startNop [0x76]))
      (fun t => t.pc == 0x0101) = true := by decide

/-- Vector NP-2. -/
theorem test_stop_nop :
    after (step (startNop [0x10, 0x00]))
      (fun t => t.pc == 0x0102) = true := by decide

/-- Vector RW-1. -/
theorem test_rom_write_ignored :
    after (step (startIgnore [0x77]))
      (fun t => t.pc == 0x0101 && t.mem == []) = true := by decide

/-- Vector RW-2. -/
theorem test_push_half_ignored :
    after (step ((startIgnore [0xD5]).setSp 0x0101))
      (fun t => t.sp == 0x00FF && t.pc == 0x0101 && t.mem.read 0x00FF == 0xD8) = true := by decide

/-! ## Witnesses: for each obligation with hypotheses, values that meet them -/

theorem witness_EncodedInstructionDecodesBack :
    WellFormed (.ldHlD16 0xC034) = true ∧ WellFormed .rst38Absent = true ∧ WellFormed .set7A = true := by decide

theorem witness_DecodedBytesAreTheEncoding :
    decode [0xC3, 0x00, 0x01, 0xAF] = .instr (.jpA16 0x0100) [0xAF] := by decide

/-- An opcode with exactly the bytes it calls for, and one byte short. -/
theorem witness_LengthIsFixedByTheFirstByte :
    decode [0xC3, 0x00, 0x01] = .instr (.jpA16 0x0100) [] ∧
    lengthOf 0xC3 ≤ [(0xC3 : Byte), 0x00, 0x01].length ∧ [(0xC3 : Byte), 0x00].length < lengthOf 0xC3 := by decide

/-- A one-byte, a three-byte and an escaped instruction at PC. -/
theorem witness_StepRunsTheDecodedInstruction :
    (start [0xCB, 0x37]).run = .running ∧ decode [0xCB, 0x37] = .instr .swapA [] ∧
    busRead (start [0xCB, 0x37]) 0x0100 = .ok 0xCB ∧ busRead (start [0xCB, 0x37]) 0x0101 = .ok 0x37 ∧
    primaryAbsent defaultConfig 0xCB = false ∧ extendedAbsent defaultConfig 0x37 = false :=
  ⟨rfl, rfl, rfl, rfl, rfl, rfl⟩

/-- Clause by clause: no opcode byte; an absent opcode; no second byte; an absent second opcode; no third. -/
theorem witness_FetchFaultsAreTakenInOrder :
    busRead (start []) 0x0100 = .error (.configError 0x0100) ∧
    (busRead (start [0xD3]) 0x0100 = .ok 0xD3 ∧ primaryAbsent (start [0xD3]).cfg 0xD3 = true) ∧
    (busRead (start [0x06]) 0x0100 = .ok 0x06 ∧ primaryAbsent (start [0x06]).cfg 0x06 = false ∧
      2 ≤ lengthOf 0x06 ∧ busRead (start [0x06]) 0x0101 = .error (.configError 0x0101)) ∧
    (busRead (startAbsent [0xCB, 0x37] 0x37) 0x0100 = .ok 0xCB ∧
      primaryAbsent (startAbsent [0xCB, 0x37] 0x37).cfg 0xCB = false ∧
      busRead (startAbsent [0xCB, 0x37] 0x37) 0x0101 = .ok 0x37 ∧
      extendedAbsent (startAbsent [0xCB, 0x37] 0x37).cfg 0x37 = true) ∧
    (busRead (start [0xC3, 0x00]) 0x0100 = .ok 0xC3 ∧ primaryAbsent (start [0xC3, 0x00]).cfg 0xC3 = false ∧
      lengthOf 0xC3 = 3 ∧ busRead (start [0xC3, 0x00]) 0x0101 = .ok 0x00 ∧
      busRead (start [0xC3, 0x00]) 0x0102 = .error (.configError 0x0102)) := by
  refine ⟨rfl, ⟨rfl, rfl⟩, ⟨rfl, rfl, ?_, rfl⟩, ⟨rfl, rfl, rfl, rfl⟩, ⟨rfl, rfl, rfl, rfl, rfl⟩⟩
  decide

theorem witness_EndedRunTakesNoStep :
    (faultedAt (start []) (.configError 0x0100)).run = .faulted (.configError 0x0100) 0x0100 ∧
    ((start []).setRun .stopped).run = .stopped := by decide

theorem witness_RunningStepCompletesOrFaultsPrecisely : (start []).run = .running := rfl

/-- One step for each of the three causes, and the one after 0xCB. -/
theorem witness_EveryFaultHasTheCauseItNames :
    takes (step (start [0xD3])) (.decodeError 0xD3) = true ∧
    takes (step (startAbsent [0xCB, 0x37] 0x37)) (.decodeError 0x37) = true ∧
    takes (step (start [0x77])) (.addressError 0x014D) = true ∧
    takes (step (start [])) (.configError 0x0100) = true := by decide

/-- NOP, STOP under the policy `nop`, and a conditional call that is not taken. -/
theorem witness_PcAdvancesByTheBytesConsumed :
    takesTransfer .nop (start []).flags = false ∧ after (exec .nop (start [])) (fun t => t.pc == 0x0101) = true ∧
    takesTransfer .stopAbsent (startNop []).flags = false ∧
    after (exec .stopAbsent (startNop [0x10, 0x00])) (fun t => t.pc == 0x0102) = true ∧
    takesTransfer (.callNzA16 0xC000) (start []).flags = false ∧
    after (exec (.callNzA16 0xC000) (start [])) (fun t => t.pc == 0x0103) = true := by decide

theorem witness_OnlyStoredBytesChange :
    after (exec .pushBc (start [])) (fun _ => true) = true ∧
    (0xFFFB : Word) ∉ storedBytes .pushBc (start []) ∧ (0xFFFE : Word) ∉ storedBytes .pushBc (start []) := by decide

theorem witness_StepKeepsStorageCanonical :
    ((start [0x70]).setMem [(0xC000, 0x5A)]).wf = true ∧
    after (step (setReg16 ((start [0x70]).setMem [(0xC000, 0x5A)]) .hl 0xC000)) (fun t => t.mem == []) = true := by
  decide

theorem witness_ResetStorageIsCanonical :
    configWf { defaultConfig with ramInit := [(0x00FF, 0x01), (0x8000, 0x02), (0xFFFE, 0x03)] } = true := by decide

/-- Two steps with a host write between them. -/
theorem witness_RunKeepsInvariantAndConfiguration :
    (start [0x00, 0x00]).wf = true ∧
    after (runMoves [.core, .host (.ioWrite 0xFF00 0x5A), .core] (start [0x00, 0x00]))
      (fun t => t.mem == [(0xFF00, 0x5A)]) = true := by decide

/-- Both ends of the ROM region. -/
theorem witness_RomReadsNeverChange :
    (0x100 ≤ (0x0100 : Word).toNat ∧ (0x0100 : Word).toNat < 0x8000) ∧
    (0x100 ≤ (0x7FFF : Word).toNat ∧ (0x7FFF : Word).toNat < 0x8000) ∧
    after (runMoves [.core] (start [0x00])) (fun _ => true) = true := by decide

/-- Both ends of the host's range, and the addresses just outside it. -/
theorem witness_HostMovesAreTheGrantedOnes :
    (start []).run = .running ∧ (start []).wf = true ∧
    after (hostMove (.ioWrite 0xFF00 0x01) (start [])) (fun t => t.mem.read 0xFF00 == 0x01) = true ∧
    after (hostMove (.ioWrite 0xFF7F 0x02) (start [])) (fun t => t.mem.read 0xFF7F == 0x02) = true ∧
    hostMove (.ioWrite 0xFEFF 0x01) (start []) = .refused .hostMoveNotGranted ∧
    hostMove (.ioWrite 0xFF80 0x01) (start []) = .refused .hostMoveNotGranted :=
  ⟨rfl, rfl, rfl, rfl, rfl, rfl⟩

/-- The ends of the two parts of mutable storage, and the addresses just outside them. -/
theorem witness_DefaultResetAndItsFirstStep :
    isMutable 0x0000 = true ∧ isMutable 0x00FF = true ∧ isMutable 0x8000 = true ∧ isMutable 0xFFFE = true ∧
    isMutable 0x0100 = false ∧ isMutable 0x7FFF = false ∧ isMutable 0xFFFF = false := by decide

/-- Storage at its ends; the image's last byte, the first address beyond it; the latch. -/
theorem witness_ByteReadFollowsTheRegion :
    busRead ((start []).setMem [(0x00FF, 0x11), (0x8000, 0x22), (0xFFFE, 0x33)]) 0x00FF = .ok 0x11 ∧
    busRead ((start []).setMem [(0x00FF, 0x11), (0x8000, 0x22), (0xFFFE, 0x33)]) 0x8000 = .ok 0x22 ∧
    busRead ((start []).setMem [(0x00FF, 0x11), (0x8000, 0x22), (0xFFFE, 0x33)]) 0xFFFE = .ok 0x33 ∧
    busRead (start [0xAF]) 0x0100 = .ok 0xAF ∧ busRead (start [0xAF]) 0x0101 = .error (.configError 0x0101) ∧
    busRead (start [0xAF]) 0x7FFF = .error (.configError 0x7FFF) ∧
    busRead ((start []).setIme true) 0xFFFF = .ok 0x01 := ⟨rfl, rfl, rfl, rfl, rfl, rfl, rfl⟩

/-- Storage; ROM at its ends under both policies; the latch under the default parameter. -/
theorem witness_ByteWriteFollowsTheRegion :
    busWrite (start []) 0x00FF 0x5A = .ok ((start []).setMem [(0x00FF, 0x5A)]) ∧
    busWrite (start []) 0x8000 0x5A = .ok ((start []).setMem [(0x8000, 0x5A)]) ∧
    ((start []).cfg.romWrite = .addressError ∧ (startIgnore []).cfg.romWrite = .ignore) ∧
    busWrite (start []) 0x0100 0x5A = .error (.addressError 0x0100) ∧
    busWrite (startIgnore []) 0x7FFF 0x5A = .ok (startIgnore []) ∧
    ((start []).cfg.latchWrite = defaultLatchWrite ∧
      busWrite (start []) 0xFFFF 0xAB = .ok ((start []).setIme true)) :=
  ⟨rfl, rfl, ⟨rfl, rfl⟩, rfl, rfl, rfl, rfl⟩

theorem witness_StoredByteIsReadBackAndNothingElseChanges :
    (start []).wf = true ∧ isMutable (0xFFFE : Word).toNat = true ∧
    busWrite (start []) 0xFFFE 0x5A = .ok ((start []).setMem [(0xFFFE, 0x5A)]) := ⟨rfl, rfl, rfl⟩

/-- Each clause: a read whose first, whose second, and whose neither byte faults; the same for a write's first
byte. -/
theorem witness_WordAccessIsTwoByteAccesses :
    busRead (start [0xAF]) 0x0101 = .error (.configError 0x0101) ∧
    (busRead (start [0xAF]) 0x0100 = .ok 0xAF ∧ busRead (start [0xAF]) 0x0101 = .error (.configError 0x0101)) ∧
    (busRead (start [0xAF]) 0xFFFE = .ok 0x00 ∧ busRead (start [0xAF]) 0xFFFF = .ok 0x00) ∧
    busWrite (start []) 0x0100 0x34 = .error (.addressError 0x0100) ∧
    busWrite (start []) 0x00FF 0x34 = .ok ((start []).setMem [(0x00FF, 0x34)]) :=
  ⟨rfl, ⟨rfl, rfl⟩, ⟨rfl, rfl⟩, rfl, rfl⟩

/-- The hypotheses, and the equivalence's sides at the ends of the ranges: it holds at 0x00FE and 0xFFFD, fails
at 0x00FF, 0x7FFF, 0xFFFE and 0xFFFF. -/
theorem witness_WordRoundTripHoldsExactlyInStorage :
    (start []).wf = true ∧ (start []).cfg.romWrite = .addressError ∧
    ((writeWord (start []) 0x00FE 0x1234).bind fun t => readWord t 0x00FE) = .ok 0x1234 ∧
    ((writeWord (start []) 0xFFFD 0x1234).bind fun t => readWord t 0xFFFD) = .ok 0x1234 ∧
    writeWord (start []) 0x00FF 0x1234 = .error (.addressError 0x0100) ∧
    writeWord (start []) 0x7FFF 0x1234 = .error (.addressError 0x7FFF) ∧
    ((writeWord (start []) 0xFFFE 0x1234).bind fun t => readWord t 0xFFFE) = .ok 0x0034 ∧
    ((writeWord (start []) 0xFFFF 0x1234).bind fun t => readWord t 0xFFFF) = .ok 0x1200 :=
  ⟨rfl, rfl, rfl, rfl, rfl, rfl, rfl, rfl⟩

/-- `OnRead` of HL: a byte that can be read, and one beyond the image. -/
theorem witness_LoadsBetweenOperands :
    busRead (start [0x4E, 0x00]) 0x0100 = .ok 0x4E ∧
    busRead (start [0x4E]) (getReg16 (start [0x4E]) .hl) = .error (.configError 0x014D) ∧
    busWrite (start []) 0xC000 0x01 = .ok ((start []).setMem [(0xC000, 0x01)]) ∧
    busWrite (start []) (getReg16 (start []) .hl) 0x01 = .error (.addressError 0x014D) := ⟨rfl, rfl, rfl, rfl⟩

theorem witness_LoadsOfAnImmediateByte :
    busWrite (start []) 0x8000 0x99 = .ok ((start []).setMem [(0x8000, 0x99)]) ∧
    busWrite (start []) (getReg16 (start []) .hl) 0x99 = .error (.addressError 0x014D) := ⟨rfl, rfl⟩

/-- BC = 0x0013 and DE = 0x00D8 at reset can be read; an absolute address beyond the image cannot. -/
theorem witness_LoadsOfAFromMemory :
    busRead (start []) (getReg16 (start []) .bc) = .ok 0x00 ∧ busRead (start []) (getReg16 (start []) .de) = .ok 0x00 ∧
    busRead (start []) 0x7FFF = .error (.configError 0x7FFF) ∧
    busRead (setReg16 (start []) .bc 0x0100) (getReg16 (setReg16 (start []) .bc 0x0100) .bc) =
      .error (.configError 0x0100) ∧
    busRead (setReg16 (start []) .de 0x7FFF) (getReg16 (setReg16 (start []) .de 0x7FFF) .de) =
      .error (.configError 0x7FFF) := ⟨rfl, rfl, rfl, rfl, rfl⟩

theorem witness_StoresOfAToMemory :
    busWrite (start []) (getReg16 (start []) .bc) 0x01 = .ok ((start []).setMem [(0x0013, 0x01)]) ∧
    busWrite (start []) (getReg16 (start []) .de) 0x01 = .ok ((start []).setMem [(0x00D8, 0x01)]) ∧
    busWrite (start []) 0x0100 0x01 = .error (.addressError 0x0100) := ⟨rfl, rfl, rfl⟩

theorem witness_LoadsAndStoresThatMoveHl :
    busWrite (setReg16 (start []) .hl 0xFFFF) (getReg16 (setReg16 (start []) .hl 0xFFFF) .hl) 0x01 =
      .ok ((setReg16 (start []) .hl 0xFFFF).setIme true) ∧
    busWrite (start []) (getReg16 (start []) .hl) 0x01 = .error (.addressError 0x014D) ∧
    busRead (setReg16 (start []) .hl 0x0000) (getReg16 (setReg16 (start []) .hl 0x0000) .hl) = .ok 0x00 ∧
    busRead (start []) (getReg16 (start []) .hl) = .error (.configError 0x014D) := ⟨rfl, rfl, rfl, rfl⟩

theorem witness_SixteenBitLoads :
    writeWord (start []) 0xC100 (start []).sp = .ok ((start []).setMem [(0xC100, 0xFE), (0xC101, 0xFF)]) ∧
    writeWord (start []) 0x00FF (start []).sp = .error (.addressError 0x0100) := ⟨rfl, rfl⟩

/-- A push and a pop that can be done, and the ones that meet the ROM region. -/
theorem witness_PushAndPop :
    writeWord (start []) ((start []).sp - 2) 0x1234 = .ok ((start []).setMem [(0xFFFC, 0x34), (0xFFFD, 0x12)]) ∧
    writeWord ((start []).setSp 0x0101) (((start []).setSp 0x0101).sp - 2) 0x1234 =
      .error (.addressError 0x0100) ∧
    readWord (start []) (start []).sp = .ok 0x0000 ∧
    readWord ((start []).setSp 0x7FFF) 0x7FFF = .error (.configError 0x7FFF) := ⟨rfl, rfl, rfl, rfl⟩

theorem witness_PushThenPopIsIdempotent :
    (start []).wf = true ∧ isMutable ((start []).sp - 2).toNat = true ∧
    isMutable ((start []).sp - 2 + 1).toNat = true := by decide

/-- `OnOperand` of (HL): an operand that can be read, and one beyond the image. -/
theorem witness_AddAndAddWithCarry :
    readOpd8 (setReg16 (start [0x86]) .hl 0x0100) .atHl = .ok 0x86 ∧
    readOpd8 (start [0x86]) .atHl = .error (.configError 0x014D) ∧
    readOpd8 (start [0x86]) (.reg .c) = .ok 0x13 := ⟨rfl, rfl, rfl⟩

theorem witness_SubtractAndSubtractWithCarry :
    readOpd8 (setReg16 (start [0x96]) .hl 0x0100) .atHl = .ok 0x96 ∧
    readOpd8 (start [0x96]) .atHl = .error (.configError 0x014D) := ⟨rfl, rfl⟩

theorem witness_LogicOperations :
    readOpd8 (setReg16 (start [0xA6]) .hl 0x0100) .atHl = .ok 0xA6 ∧
    readOpd8 (start [0xA6]) .atHl = .error (.configError 0x014D) := ⟨rfl, rfl⟩

theorem witness_CompareSetsTheFlagsOfSubtract :
    readOpd8 (setReg16 (start [0xBE]) .hl 0x0100) .atHl = .ok 0xBE ∧
    readOpd8 (start [0xBE]) .atHl = .error (.configError 0x014D) := ⟨rfl, rfl⟩

/-- `OnModify`: a register; (HL) in storage; (HL) whose read faults; (HL) whose read is good and whose write
faults. -/
theorem witness_IncrementAndDecrementByte :
    (readOpd8 (start []) (.reg .b) = .ok 0x00 ∧
      writeOpd8 (start []) (.reg .b) 0x01 = .ok (setReg8 (start []) .b 0x01)) ∧
    (readOpd8 (setReg16 (start []) .hl 0xC000) .atHl = .ok 0x00 ∧
      writeOpd8 (setReg16 (start []) .hl 0xC000) .atHl 0x01 =
        .ok ((setReg16 (start []) .hl 0xC000).setMem [(0xC000, 0x01)])) ∧
    readOpd8 (start []) .atHl = .error (.configError 0x014D) ∧
    (readOpd8 (setReg16 (start [0x34]) .hl 0x0100) .atHl = .ok 0x34 ∧
      writeOpd8 (setReg16 (start [0x34]) .hl 0x0100) .atHl 0x35 = .error (.addressError 0x0100)) :=
  ⟨⟨rfl, rfl⟩, ⟨rfl, rfl⟩, rfl, ⟨rfl, rfl⟩⟩

/-- The same four cases for an instruction of the extended table. -/
theorem witness_LeftRotatesShiftsAndSwap :
    (readOpd8 (start []) (.reg .e) = .ok 0xD8 ∧
      writeOpd8 (start []) (.reg .e) 0xB1 = .ok (setReg8 (start []) .e 0xB1)) ∧
    (readOpd8 ((setReg16 (start []) .hl 0xFFFE).setMem [(0xFFFE, 0x80)]) .atHl = .ok 0x80 ∧
      writeOpd8 ((setReg16 (start []) .hl 0xFFFE).setMem [(0xFFFE, 0x80)]) .atHl 0x00 =
        .ok (setReg16 (start []) .hl 0xFFFE)) ∧
    readOpd8 (start [0xCB, 0x06]) .atHl = .error (.configError 0x014D) ∧
    (readOpd8 (setReg16 (start [0xCB, 0x06]) .hl 0x0101) .atHl = .ok 0x06 ∧
      writeOpd8 (setReg16 (start [0xCB, 0x06]) .hl 0x0101) .atHl 0x0C = .error (.addressError 0x0101)) :=
  ⟨⟨rfl, rfl⟩, ⟨rfl, rfl⟩, rfl, ⟨rfl, rfl⟩⟩

theorem witness_RightRotatesAndShifts :
    (readOpd8 (start []) (.reg .a) = .ok 0x01 ∧
      writeOpd8 (start []) (.reg .a) 0x00 = .ok (setReg8 (start []) .a 0x00)) ∧
    (readOpd8 (setReg16 (start []) .hl 0x8000) .atHl = .ok 0x00 ∧
      writeOpd8 (setReg16 (start []) .hl 0x8000) .atHl 0x80 =
        .ok ((setReg16 (start []) .hl 0x8000).setMem [(0x8000, 0x80)])) ∧
    readOpd8 (start [0xCB, 0x0E]) .atHl = .error (.configError 0x014D) ∧
    (readOpd8 (setReg16 (start [0xCB, 0x0E]) .hl 0x0101) .atHl = .ok 0x0E ∧
      writeOpd8 (setReg16 (start [0xCB, 0x0E]) .hl 0x0101) .atHl 0x07 = .error (.addressError 0x0101)) :=
  ⟨⟨rfl, rfl⟩, ⟨rfl, rfl⟩, rfl, ⟨rfl, rfl⟩⟩

theorem witness_BitTest :
    readOpd8 (setReg16 (start [0xCB, 0x46]) .hl 0x0100) .atHl = .ok 0xCB ∧
    readOpd8 (start [0xCB, 0x46]) .atHl = .error (.configError 0x014D) := ⟨rfl, rfl⟩

/-- The four cases, and both ends of each choice the value depends on: the bit is 1, the bit is 0. -/
theorem witness_BitResetAndSet :
    (readOpd8 (start []) (.reg .a) = .ok 0x01 ∧ (0x01 : Byte).toNat / 2 ^ 0 % 2 = 1 ∧
      writeOpd8 (start []) (.reg .a) 0x00 = .ok (setReg8 (start []) .a 0x00)) ∧
    (readOpd8 (start []) (.reg .b) = .ok 0x00 ∧ (0x00 : Byte).toNat / 2 ^ 7 % 2 = 0 ∧
      writeOpd8 (start []) (.reg .b) 0x80 = .ok (setReg8 (start []) .b 0x80)) ∧
    readOpd8 (start [0xCB, 0xFE]) .atHl = .error (.configError 0x014D) ∧
    (readOpd8 (setReg16 (start [0xCB, 0xFE]) .hl 0x0100) .atHl = .ok 0xCB ∧
      writeOpd8 (setReg16 (start [0xCB, 0xFE]) .hl 0x0100) .atHl 0xCB = .error (.addressError 0x0100)) :=
  ⟨⟨rfl, rfl, rfl⟩, ⟨rfl, rfl, rfl⟩, rfl, ⟨rfl, rfl⟩⟩

/-- Each side of a condition, and of a displacement's sign. -/
theorem witness_JumpsSetPc :
    condHolds (start []).flags .z = true ∧ condHolds (start []).flags .nz = false ∧
    signedByte 0x7F = 127 ∧ signedByte 0x80 = -128 := by decide

/-- A push that can be done and one that cannot; both sides of the condition; a restart's index. -/
theorem witness_CallsPushTheReturnAddress :
    writeWord (start []) ((start []).sp - 2) 0x0103 = .ok ((start []).setMem [(0xFFFC, 0x03), (0xFFFD, 0x01)]) ∧
    writeWord ((start []).setSp 0x0102) (((start []).setSp 0x0102).sp - 2) 0x0103 =
      .error (.addressError 0x0100) ∧
    condHolds (start []).flags .c = true ∧ condHolds (start []).flags .nc = false ∧ (6 : Fin 8) ≠ 7 := by
  refine ⟨rfl, rfl, rfl, rfl, ?_⟩
  decide

theorem witness_ReturnsPopPc :
    readWord ((start []).setMem [(0xFFFE, 0x34)]) 0xFFFE = .ok 0x0034 ∧
    readWord ((start []).setSp 0x0100) 0x0100 = .error (.configError 0x0100) ∧
    condHolds (start []).flags .z = true ∧ condHolds (start []).flags .nz = false := ⟨rfl, rfl, rfl, rfl⟩

/-- The hypotheses on the calling state, and a state a return can be made from: the call's own result. -/
theorem witness_CallThenReturnRestoresPcAndSp :
    (start []).wf = true ∧ isMutable ((start []).sp - 2).toNat = true ∧
    isMutable ((start []).sp - 2 + 1).toNat = true ∧
    after (exec (.callA16 0xC000) (start []))
      (fun t => after (exec .ret t) (fun u => u.pc == 0x0103 && u.sp == 0xFFFE)) = true := by decide

/-- Each policy; under `nop`, a second byte that is there and one that is not. -/
theorem witness_HaltAndStopFollowThePolicy :
    (start []).cfg.haltStop = .decodeError ∧ (startNop [0x10, 0x00]).cfg.haltStop = .nop ∧
    busRead (startNop [0x10, 0x00]) ((startNop [0x10, 0x00]).pc + 1) = .ok 0x00 ∧
    busRead (startNop [0x10]) ((startNop [0x10]).pc + 1) = .error (.configError 0x0101) := ⟨rfl, rfl, rfl, rfl⟩

theorem witness_AbsentOpcodesTakeDecodeError :
    (start [0xD3]).run = .running ∧ busRead (start [0xD3]) (start [0xD3]).pc = .ok 0xD3 ∧
    primaryAbsent (start [0xD3]).cfg 0xD3 = true ∧ primaryAbsent (start [0xFF]).cfg 0xFF = true :=
  ⟨rfl, rfl, rfl, rfl⟩

/-- A second byte that is present and one that is absent; both bytes at PC; a register operand. -/
theorem witness_EscapeSelectsTheExtendedEntry :
    extendedAbsent (start [0xCB, 0x37]).cfg 0x37 = false ∧
    extendedAbsent (startAbsent [0xCB, 0x37] 0x37).cfg 0x37 = true ∧
    (busRead (start [0xCB, 0x37]) (start [0xCB, 0x37]).pc = .ok 0xCB ∧
      primaryAbsent (start [0xCB, 0x37]).cfg 0xCB = false ∧
      busRead (start [0xCB, 0x37]) ((start [0xCB, 0x37]).pc + 1) = .ok 0x37) ∧
    (0x37 : Byte).toNat % 8 ≠ 6 := by
  refine ⟨rfl, rfl, ⟨rfl, rfl, rfl⟩, ?_⟩
  decide

end Sys2Proof.Tests
end

section
/-! SUPPORT. The words of the register file and the flag unit as numbers: halves of a pair, nibbles, and the
packed flags (10_state.md R23, R29, R30). -/

namespace Sys2Proof.Machine

/-! ## Halves of a pair -/

@[simp] theorem wordOf_toNat (hi lo : Byte) : (wordOf hi lo).toNat = hi.toNat * 256 + lo.toNat := by
  have hshift : hi.toNat <<< 8 + lo.toNat = hi.toNat <<< 8 ||| lo.toNat := Nat.shiftLeft_add_eq_or_of_lt lo.isLt _
  rw [wordOf, BitVec.toNat_append, ← hshift, Nat.shiftLeft_eq]

theorem hiByte_eq_ofNat (v : Word) : hiByte v = BitVec.ofNat 8 (v.toNat / 256) := by
  rw [hiByte, BitVec.extractLsb', Nat.shiftRight_eq_div_pow]

theorem loByte_eq_ofNat (v : Word) : loByte v = BitVec.ofNat 8 (v.toNat % 256) := by
  apply BitVec.eq_of_toNat_eq
  simp [loByte]

/-- Settles O20: the halves of a word as its quotient and remainder by 256, and the read-back of a write. -/
theorem pairsAreViewsOfTheirHalves : Obligations.PairsAreViewsOfTheirHalves := by
  intro s v
  rw [← hiByte_eq_ofNat, ← loByte_eq_ofNat]
  exact ⟨wordOf_toNat _ _, wordOf_toNat _ _, wordOf_toNat _ _, rfl, rfl, rfl,
    fun r => getReg16_setReg16 s r v⟩

/-! ## The flag byte -/

theorem packFlags_toNat (f : Flags) :
    (packFlags f).toNat = f.z.toNat * 128 + f.n.toNat * 64 + f.h.toNat * 32 + f.c.toNat * 16 := by
  obtain ⟨z, n, h, c⟩ := f
  revert z n h c
  decide

theorem unpackFlags_packFlags (f : Flags) : unpackFlags (packFlags f) = f := by
  obtain ⟨z, n, h, c⟩ := f
  revert z n h c
  decide

/-- A bit of a byte as a number. -/
theorem getLsbD_eq_decide (b : Byte) (i : Nat) : b.getLsbD i = decide (b.toNat / 2 ^ i % 2 = 1) :=
  Nat.testBit_eq_decide_div_mod_eq

theorem toNat_getLsbD (b : Byte) (i : Nat) : (b.getLsbD i).toNat = b.toNat / 2 ^ i % 2 :=
  Nat.toNat_testBit _ _

theorem unpackFlags_eq (b : Byte) : unpackFlags b =
    { z := decide (b.toNat / 128 % 2 = 1), n := decide (b.toNat / 64 % 2 = 1),
      h := decide (b.toNat / 32 % 2 = 1), c := decide (b.toNat / 16 % 2 = 1) } := by
  simp only [unpackFlags, getLsbD_eq_decide, Nat.reducePow]

theorem packFlags_unpackFlags_toNat (b : Byte) : (packFlags (unpackFlags b)).toNat = b.toNat / 16 * 16 := by
  simp only [packFlags_toNat, unpackFlags, toNat_getLsbD, Nat.reducePow]
  have := b.isLt
  omega

/-- Settles O21: the sixteen flag values one by one, and a byte's bits as remainders. -/
theorem flagBytePacksTheFourFlags : Obligations.FlagBytePacksTheFourFlags :=
  ⟨packFlags_toNat, unpackFlags_packFlags, unpackFlags_eq, packFlags_unpackFlags_toNat⟩

/-! ## The predicates -/

/-- The mask of a low nibble takes the remainder by 16. -/
theorem and_0xF_toNat (a : Byte) : (a &&& 0xF).toNat = a.toNat % 16 :=
  Nat.and_two_pow_sub_one_eq_mod a.toNat 4

theorem isZero_eq (a : Byte) : isZero a = decide (a.toNat = 0) :=
  decide_eq_decide.2 (BitVec.toNat_inj (y := 0#8)).symm

/-- Settles O22: each predicate is the comparison it says, the nibbles being remainders by 16. -/
theorem flagPredicatesAreTheCarriesOfExactSums : Obligations.FlagPredicatesAreTheCarriesOfExactSums := by
  intro a b
  have hadd : halfCarryAdd a b = decide (a.toNat % 16 + b.toNat % 16 > 15) := by
    rw [halfCarryAdd, and_0xF_toNat, and_0xF_toNat]
  have hsub : halfCarrySub a b = decide (a.toNat % 16 < b.toNat % 16) := by
    rw [halfCarrySub, and_0xF_toNat, and_0xF_toNat]
  exact ⟨isZero_eq a, hadd, hsub, rfl, rfl⟩

end Sys2Proof.Machine
end

section
/-! SUPPORT. What every instruction can do, in one lemma over the constructors of `Instr`: it ends as
Safety.lean says (its stored bytes, its PC), or it takes the DecodeError of an absent byte. The inversion lemma
`exec_cases` drawn from it is what proofs about `exec` and `step` cite. -/

namespace Sys2Proof.Machine

/-- The execution of `i` stores only to `storedBytes i s` and, unless it takes a transfer, advances PC by the
bytes it consumed (10_state.md R27); or it takes a bus fault. -/
def EndsAsStated (i : Instr) (s : State) : Prop :=
  Ends s (storedBytes i s)
    (fun p => takesTransfer i s.flags = false → p = s.pc + BitVec.ofNat 16 (consumed i)) (exec i s)

/-- `op` is the absent byte that `i` takes a DecodeError for: its own opcode, which is in R94's list, or the
second byte of an escape, which is in `ABSENT_EXTENDED` (46_system.md R243 to R246). -/
def NamesAbsent (i : Instr) (s : State) (op : Byte) : Prop :=
  (encode i = [op] ∧ op ∈ defaultAbsentPrimary) ∨ (i = .prefixCb op ∧ extendedAbsent s.cfg op = true)

/-- Every execution, in every state: as stated, or the DecodeError of an absent byte. -/
def EndsOrNamesAbsent (i : Instr) (s : State) : Prop :=
  EndsAsStated i s ∨ ∃ op, NamesAbsent i s op ∧ exec i s = raiseDecode op s

/-! ## From a family's lemma to the instruction -/

/-- A weaker demand on PC. -/
theorem Ends.imp {s : State} {stored : List Word} {pcs pcs' : Word → Prop} {r : Result}
    (h : Ends s stored pcs r) (hp : ∀ p, pcs p → pcs' p) : Ends s stored pcs' r := by
  obtain ⟨t, ht, he⟩ := h
  exact ⟨t, ht, he.imp_left fun ⟨hk, hb, hpc⟩ => ⟨hk, hb, hp _ hpc⟩⟩

/-- An instruction whose family only moves PC on. That the arm of `exec` is the family's meaning `r`, and that
the words of Safety.lean say the same as the family's lemma, holds by unfolding them at a constructor; `delta`
unfolds `exec` alone, so that `r` is found with the family's operands in it. -/
theorem EndsAsStated.of_advance {i : Instr} {s : State} {stored : List Word} {len : Word} {r : Result}
    (h : Ends s stored (· = s.pc + len) r) (hr : exec i s = r := by delta exec; rfl)
    (hs : storedBytes i s = stored := by rfl) (hl : BitVec.ofNat 16 (consumed i) = len := by rfl) :
    EndsAsStated i s := by
  subst hr hs hl
  exact h.imp fun _ hp _ => hp

/-- A control transfer that is always taken: where it goes is said by its family's lemma. -/
theorem EndsAsStated.of_transfer {i : Instr} {s : State} {stored : List Word} {pcs : Word → Prop} {r : Result}
    (h : Ends s stored pcs r) (hr : exec i s = r := by delta exec; rfl)
    (hs : storedBytes i s = stored := by rfl) (ht : takesTransfer i s.flags = true := by rfl) :
    EndsAsStated i s := by
  subst hr hs
  exact h.imp fun _ _ hn => absurd ht (Bool.eq_false_iff.1 hn)

/-- A conditional transfer: `hp` is where PC goes when it is not taken. -/
theorem EndsAsStated.of_conditional {i : Instr} {s : State} {stored : List Word} {pcs : Word → Prop}
    {r : Result} (h : Ends s stored pcs r) (hr : exec i s = r := by delta exec; rfl)
    (hs : storedBytes i s = stored := by rfl)
    (hp : ¬ takesTransfer i s.flags = true → ∀ p, pcs p → p = s.pc + BitVec.ofNat 16 (consumed i) := by
      exact fun hn _ h => h.trans (if_neg hn)) :
    EndsAsStated i s := by
  subst hr hs
  exact h.imp fun p hpc hn => hp (Bool.eq_false_iff.1 hn) p hpc

/-! ## The instructions that may be absent -/

/-- HALT is absent exactly under the policy `decode_error` (R243). -/
theorem haltAbsent_ends_or_names_absent (s : State) : EndsOrNamesAbsent .haltAbsent s := by
  cases hp : s.cfg.haltStop with
  | decodeError =>
    have he : halt s = raiseDecode 0x76 s := by simp only [halt, hp]
    exact .inr ⟨0x76, .inl ⟨rfl, by decide⟩, he⟩
  | nop => exact .inl (.of_advance (halt_ends s hp))

/-- STOP is absent exactly under the policy `decode_error` (R244). -/
theorem stopAbsent_ends_or_names_absent (s : State) : EndsOrNamesAbsent .stopAbsent s := by
  cases hp : s.cfg.haltStop with
  | decodeError =>
    have he : stop s = raiseDecode 0x10 s := by simp only [stop, hp]
    exact .inr ⟨0x10, .inl ⟨rfl, by decide⟩, he⟩
  | nop => exact .inl (.of_advance (stop_ends s hp))

/-- The escape names its second byte where that is absent (R245). -/
theorem prefixCb_ends_or_names_absent (op2 : Byte) (s : State) : EndsOrNamesAbsent (.prefixCb op2) s := by
  cases ha : extendedAbsent s.cfg op2 with
  | true =>
    have he : escape op2 s = raiseDecode op2 s := by simp only [escape, ha, if_true]
    exact .inr ⟨op2, .inr ⟨rfl, ha⟩, he⟩
  | false => exact .inl (.of_advance (escape_ends op2 s ha))

/-! ## Every instruction -/

/-- Each family of constructors by the family's own lemma. -/
theorem exec_ends_or_names_absent (i : Instr) (s : State) : EndsOrNamesAbsent i s := by
  cases i with
  | ldBB | ldBC | ldBD | ldBE | ldBH | ldBL | ldBAtHl | ldBA | ldCB | ldCC | ldCD | ldCE | ldCH | ldCL
    | ldCAtHl | ldCA | ldDB | ldDC | ldDD | ldDE | ldDH | ldDL | ldDAtHl | ldDA | ldEB | ldEC | ldED | ldEE
    | ldEH | ldEL | ldEAtHl | ldEA | ldHB | ldHC | ldHD | ldHE | ldHH | ldHL | ldHAtHl | ldHA | ldLB | ldLC
    | ldLD | ldLE | ldLH | ldLL | ldLAtHl | ldLA | ldAtHlB | ldAtHlC | ldAtHlD | ldAtHlE | ldAtHlH | ldAtHlL
    | ldAtHlA | ldAB | ldAC | ldAD | ldAE | ldAH | ldAL | ldAAtHl | ldAA =>
    exact .inl (.of_advance (load8_ends _ _ s))
  | ldBD8 n | ldCD8 n | ldDD8 n | ldED8 n | ldHD8 n | ldLD8 n | ldAtHlD8 n | ldAD8 n =>
    exact .inl (.of_advance (load8Imm_ends _ _ s))
  | ldAAtBc | ldAAtDe | ldhAAtA8 n | ldAAtC | ldAAtA16 nn =>
    exact .inl (.of_advance (loadA_ends _ _ s))
  | ldAtBcA | ldAtDeA | ldhAtA8A n | ldAtCA | ldAtA16A nn =>
    exact .inl (.of_advance (storeA_ends _ _ s))
  | ldAAtHlInc | ldAAtHlDec =>
    exact .inl (.of_advance (loadAStep_ends _ s))
  | ldAtHlIncA | ldAtHlDecA =>
    exact .inl (.of_advance (storeAStep_ends _ s))
  | ldBcD16 nn | ldDeD16 nn | ldHlD16 nn | ldSpD16 nn =>
    exact .inl (.of_advance (load16Imm_ends _ _ s))
  | ldAtA16Sp nn =>
    exact .inl (.of_advance (storeSp_ends _ s))
  | ldSpHl =>
    exact .inl (.of_advance (loadSpHl_ends s))
  | ldHlSpE8 n =>
    exact .inl (.of_advance (loadHlSpOffset_ends _ s))
  | pushBc | pushDe | pushHl | pushAf =>
    exact .inl (.of_advance (push_ends _ s))
  | popBc | popDe | popHl | popAf =>
    exact .inl (.of_advance (pop_ends _ s))
  | addAB | addAC | addAD | addAE | addAH | addAL | addAAtHl | addAA | adcAB | adcAC | adcAD | adcAE | adcAH
    | adcAL | adcAAtHl | adcAA | subB | subC | subD | subE | subH | subL | subAtHl | subA | sbcAB | sbcAC
    | sbcAD | sbcAE | sbcAH | sbcAL | sbcAAtHl | sbcAA | andB | andC | andD | andE | andH | andL | andAtHl
    | andA | xorB | xorC | xorD | xorE | xorH | xorL | xorAtHl | xorA | orB | orC | orD | orE | orH | orL
    | orAtHl | orA | cpB | cpC | cpD | cpE | cpH | cpL | cpAtHl | cpA =>
    exact .inl (.of_advance (aluOpd_ends _ _ s))
  | addAD8 n | adcAD8 n | subD8 n | sbcAD8 n | andD8 n | xorD8 n | orD8 n | cpD8 n =>
    exact .inl (.of_advance (aluImm_ends _ _ s))
  | incB | incC | incD | incE | incH | incL | incAtHl | incA =>
    exact .inl (.of_advance (inc8_ends _ s))
  | decB | decC | decD | decE | decH | decL | decAtHl | decA =>
    exact .inl (.of_advance (dec8_ends _ s))
  | daa =>
    exact .inl (.of_advance (decimalAdjust_ends s))
  | cpl =>
    exact .inl (.of_advance (complementA_ends s))
  | scf =>
    exact .inl (.of_advance (setCarry_ends s))
  | ccf =>
    exact .inl (.of_advance (complementCarry_ends s))
  | addHlBc | addHlDe | addHlHl | addHlSp =>
    exact .inl (.of_advance (addHl_ends _ s))
  | incBc | incDe | incHl | incSp =>
    exact .inl (.of_advance (inc16_ends _ s))
  | decBc | decDe | decHl | decSp =>
    exact .inl (.of_advance (dec16_ends _ s))
  | addSpE8 n =>
    exact .inl (.of_advance (addSpOffset_ends _ s))
  | rlca | rrca | rla | rra =>
    exact .inl (.of_advance (rotateA_ends _ s))
  | rlcB | rlcC | rlcD | rlcE | rlcH | rlcL | rlcAtHl | rlcA | rrcB | rrcC | rrcD | rrcE | rrcH | rrcL
    | rrcAtHl | rrcA | rlB | rlC | rlD | rlE | rlH | rlL | rlAtHl | rlA | rrB | rrC | rrD | rrE | rrH | rrL
    | rrAtHl | rrA | slaB | slaC | slaD | slaE | slaH | slaL | slaAtHl | slaA | sraB | sraC | sraD | sraE | sraH
    | sraL | sraAtHl | sraA | swapB | swapC | swapD | swapE | swapH | swapL | swapAtHl | swapA | srlB | srlC
    | srlD | srlE | srlH | srlL | srlAtHl | srlA =>
    exact .inl (.of_advance (rotate_ends _ _ s))
  | bit0B | bit0C | bit0D | bit0E | bit0H | bit0L | bit0AtHl | bit0A | bit1B | bit1C | bit1D | bit1E | bit1H
    | bit1L | bit1AtHl | bit1A | bit2B | bit2C | bit2D | bit2E | bit2H | bit2L | bit2AtHl | bit2A | bit3B
    | bit3C | bit3D | bit3E | bit3H | bit3L | bit3AtHl | bit3A | bit4B | bit4C | bit4D | bit4E | bit4H | bit4L
    | bit4AtHl | bit4A | bit5B | bit5C | bit5D | bit5E | bit5H | bit5L | bit5AtHl | bit5A | bit6B | bit6C
    | bit6D | bit6E | bit6H | bit6L | bit6AtHl | bit6A | bit7B | bit7C | bit7D | bit7E | bit7H | bit7L
    | bit7AtHl | bit7A =>
    exact .inl (.of_advance (testBit_ends _ _ s))
  | res0B | res0C | res0D | res0E | res0H | res0L | res0AtHl | res0A | res1B | res1C | res1D | res1E | res1H
    | res1L | res1AtHl | res1A | res2B | res2C | res2D | res2E | res2H | res2L | res2AtHl | res2A | res3B
    | res3C | res3D | res3E | res3H | res3L | res3AtHl | res3A | res4B | res4C | res4D | res4E | res4H | res4L
    | res4AtHl | res4A | res5B | res5C | res5D | res5E | res5H | res5L | res5AtHl | res5A | res6B | res6C
    | res6D | res6E | res6H | res6L | res6AtHl | res6A | res7B | res7C | res7D | res7E | res7H | res7L
    | res7AtHl | res7A =>
    exact .inl (.of_advance (resetBit_ends _ _ s))
  | set0B | set0C | set0D | set0E | set0H | set0L | set0AtHl | set0A | set1B | set1C | set1D | set1E | set1H
    | set1L | set1AtHl | set1A | set2B | set2C | set2D | set2E | set2H | set2L | set2AtHl | set2A | set3B
    | set3C | set3D | set3E | set3H | set3L | set3AtHl | set3A | set4B | set4C | set4D | set4E | set4H | set4L
    | set4AtHl | set4A | set5B | set5C | set5D | set5E | set5H | set5L | set5AtHl | set5A | set6B | set6C
    | set6D | set6E | set6H | set6L | set6AtHl | set6A | set7B | set7C | set7D | set7E | set7H | set7L
    | set7AtHl | set7A =>
    exact .inl (.of_advance (setBit_ends _ _ s))
  | jpA16 nn =>
    exact .inl (.of_transfer (jump_ends _ s))
  | jpHl =>
    exact .inl (.of_transfer (jumpHl_ends s))
  | jrE8 n =>
    exact .inl (.of_transfer (jumpRel_ends _ s))
  | callA16 nn =>
    exact .inl (.of_transfer (call_ends _ s))
  | ret =>
    exact .inl (.of_transfer (ret_ends s))
  | reti =>
    exact .inl (.of_transfer (retEnable_ends s))
  | rst00 | rst08 | rst10 | rst18 | rst20 | rst28 | rst30 =>
    exact .inl (.of_transfer (restart_ends _ s))
  | jpNzA16 nn | jpZA16 nn | jpNcA16 nn | jpCA16 nn =>
    exact .inl (.of_conditional (jumpIf_ends _ _ s))
  | jrNzE8 n | jrZE8 n | jrNcE8 n | jrCE8 n =>
    exact .inl (.of_conditional (jumpRelIf_ends _ _ s))
  | callNzA16 nn | callZA16 nn | callNcA16 nn | callCA16 nn =>
    exact .inl (.of_conditional (callIf_ends _ _ s))
  | retNz | retZ | retNc | retC =>
    exact .inl (.of_conditional (retIf_ends _ s) (hp := by exact fun hn _ => (iff_of_eq (if_neg hn)).mp))
  | nop =>
    exact .inl (.of_advance (nop_ends s))
  | ei =>
    exact .inl (.of_advance (enableLatch_ends s))
  | di =>
    exact .inl (.of_advance (disableLatch_ends s))
  | haltAbsent =>
    exact haltAbsent_ends_or_names_absent s
  | stopAbsent =>
    exact stopAbsent_ends_or_names_absent s
  | absentD3 | absentDB | absentDD | absentE3 | absentE4 | absentEB | absentEC | absentED | absentF4
    | absentFC | absentFD | rst38Absent =>
    exact .inr ⟨_, .inl ⟨rfl, by decide⟩, rfl⟩
  | prefixCb op2 =>
    exact prefixCb_ends_or_names_absent _ s

/-- What an execution that answers a next state has done: it completed, keeping what an instruction may not
touch; or it took a bus fault; or the DecodeError of an absent byte. -/
theorem exec_cases {i : Instr} {s t : State} (h : exec i s = .next t) :
    (Keeps s t ∧ (∀ b, b ∉ storedBytes i s → busRead t b = busRead s b) ∧
        (takesTransfer i s.flags = false → t.pc = s.pc + BitVec.ofNat 16 (consumed i))) ∨
      (∃ c, BusFault s c ∧ t = s.raise c) ∨
      ∃ op, NamesAbsent i s op ∧ t = s.raise (.decodeError op) := by
  rcases exec_ends_or_names_absent i s with ⟨u, hu, he⟩ | ⟨op, ha, he⟩
  · obtain rfl : u = t := Host.Outcome.next.inj (hu.symm.trans h)
    exact he.imp_right .inl
  · exact .inr (.inr ⟨op, ha, Host.Outcome.next.inj (h.symm.trans he)⟩)

end Sys2Proof.Machine
end

section
/-! SUPPORT. The invariant of storage and the constancy of the configuration, move by move: a step of the CORE,
a host move, a run (70_reset_and_hazards.md R354). -/

namespace Sys2Proof.Machine

/-- Every move keeps the configuration, and storage canonical where it was (10_state.md R20, R36). -/
structure KeepsInvariant (s t : State) : Prop where
  cfg : t.cfg = s.cfg
  wf : s.wf = true → t.wf = true

theorem State.wf_iff (s : State) : s.wf = true ↔ s.mem.wf = true ∧ s.mem.inStorage = true := by
  simp only [State.wf, Bool.and_eq_true]

theorem KeepsInvariant.refl (s : State) : KeepsInvariant s s := ⟨rfl, id⟩

theorem KeepsInvariant.trans {s t u : State} (h : KeepsInvariant s t) (h' : KeepsInvariant t u) :
    KeepsInvariant s u :=
  ⟨h'.cfg.trans h.cfg, h'.wf ∘ h.wf⟩

theorem Keeps.keepsInvariant {s t : State} (h : Keeps s t) : KeepsInvariant s t where
  cfg := h.cfg
  wf hs := by
    rw [State.wf_iff] at hs ⊢
    exact ⟨h.wf hs.1, h.inStorage hs.2⟩

/-- A change of RUN alone, by a fault or the host's stop request. -/
theorem KeepsInvariant.setRun (s : State) (r : RunState) : KeepsInvariant s (s.setRun r) := ⟨rfl, id⟩

/-- A byte stored in a cell. -/
theorem KeepsInvariant.setMem_write (s : State) {a : Nat} (ha : isMutable a = true) (v : Byte) :
    KeepsInvariant s (s.setMem (s.mem.write a v)) where
  cfg := rfl
  wf hs := by
    rw [State.wf_iff] at hs ⊢
    exact ⟨Memory.write_wf a v hs.1, Memory.write_inStorage ha v hs.2⟩

theorem exec_keepsInvariant {i : Instr} {s t : State} (h : exec i s = .next t) : KeepsInvariant s t := by
  rcases exec_cases h with ⟨hk, -, -⟩ | ⟨c, -, rfl⟩ | ⟨op, -, rfl⟩
  · exact hk.keepsInvariant
  · exact .setRun s _
  · exact .setRun s _

/-- A step that answers a next state ran, and took the fault of its fetch or executed what it fetched. -/
theorem step_cases {s t : State} (h : step s = .next t) :
    s.run = .running ∧
      ((∃ c, fetch s = .error c ∧ t = s.raise c) ∨ ∃ i, fetch s = .ok i ∧ exec i s = .next t) := by
  simp only [step] at h
  cases hr : s.run <;> simp only [hr] at h
  case running =>
    cases hf : fetch s with
    | error c => rw [hf] at h; cases h; exact ⟨rfl, .inl ⟨c, rfl, rfl⟩⟩
    | ok i => rw [hf] at h; exact ⟨rfl, .inr ⟨i, rfl, h⟩⟩
  all_goals cases h

theorem step_keepsInvariant {s t : State} (h : step s = .next t) : KeepsInvariant s t := by
  obtain ⟨-, ⟨c, -, rfl⟩ | ⟨i, -, he⟩⟩ := step_cases h
  · exact .setRun s _
  · exact exec_keepsInvariant he

/-- The host's range lies inside the addresses that have a cell (20_memory.md R70). -/
theorem isMutable_of_isHostIo {a : Word} (h : isHostIo a = true) : isMutable a.toNat = true := by
  simp only [isHostIo, Bool.and_eq_true, decide_eq_true_eq] at h
  simp only [isMutable, Bool.or_eq_true, Bool.and_eq_true, decide_eq_true_eq]
  omega

/-- A host move that answers a next state stored a byte in the host's range or stopped the run. -/
theorem hostMove_cases {m : HostMove} {s t : State} (h : hostMove m s = .next t) :
    (∃ a v, m = .ioWrite a v ∧ isHostIo a = true ∧ t = s.setMem (s.mem.write a.toNat v)) ∨
      (m = .stop ∧ t = s.setRun .stopped) := by
  simp only [hostMove] at h
  cases hr : s.run <;> simp only [hr] at h
  case running =>
    cases m with
    | stop => cases h; exact .inr ⟨rfl, rfl⟩
    | ioWrite a v =>
      simp only at h
      split at h
      · rename_i ha
        cases h
        exact .inl ⟨a, v, rfl, ha, rfl⟩
      · cases h
  all_goals cases h

theorem hostMove_keepsInvariant {m : HostMove} {s t : State} (h : hostMove m s = .next t) :
    KeepsInvariant s t := by
  rcases hostMove_cases h with ⟨a, v, -, ha, rfl⟩ | ⟨-, rfl⟩
  · exact .setMem_write s (isMutable_of_isHostIo ha) v
  · exact .setRun s _

theorem move_keepsInvariant {m : Move} {s t : State} (h : move m s = .next t) : KeepsInvariant s t := by
  cases m with
  | core => exact step_keepsInvariant h
  | host m => exact hostMove_keepsInvariant h

/-- A run that answers a next state made its first move and then the rest. -/
theorem runMoves_cons {m : Move} {ms : List Move} {s t : State} (h : runMoves (m :: ms) s = .next t) :
    ∃ u, move m s = .next u ∧ runMoves ms u = .next t := by
  simp only [runMoves] at h
  split at h
  · exact ⟨_, ‹_›, h⟩
  · cases h
  · cases h

/-- Induction over the moves, for every state they begin in. -/
theorem runMoves_keepsInvariant (ms : List Move) :
    ∀ {s t : State}, runMoves ms s = .next t → KeepsInvariant s t := by
  induction ms with
  | nil => intro s t h; cases h; exact .refl s
  | cons m ms ih =>
    intro s t h
    obtain ⟨u, hm, hr⟩ := runMoves_cons h
    exact (move_keepsInvariant hm).trans (ih hr)

/-- Settles O12: a completed instruction stores only in cells and keeps the canonical form; a fault changes
RUN alone. -/
theorem stepKeepsStorageCanonical : Obligations.StepKeepsStorageCanonical :=
  fun _ _ hs h => (step_keepsInvariant h).wf hs

/-- Settles O14, by induction over the moves of the run. -/
theorem runKeepsInvariantAndConfiguration : Obligations.RunKeepsInvariantAndConfiguration :=
  fun ms _ _ h => ⟨(runMoves_keepsInvariant ms h).cfg, (runMoves_keepsInvariant ms h).wf⟩

/-- Settles O10: an execution after which the CORE still runs took no fault, so it completed. -/
theorem pcAdvancesByTheBytesConsumed : Obligations.PcAdvancesByTheBytesConsumed := by
  intro i s t hn _ he ht
  rcases exec_cases he with ⟨-, -, hp⟩ | ⟨c, -, rfl⟩ | ⟨op, -, rfl⟩
  · exact hp hn
  · cases ht
  · cases ht

end Sys2Proof.Machine
end

section
/-! SUPPORT. The memory bus, region by region: one rule per access and region, the frame of every instruction,
ROM over a run, and the word accesses (20_memory.md R51 to R60, R71). -/

namespace Sys2Proof.Machine

/-! ## Regions -/

/-- The two ranges of mutable storage (20_memory.md R51). -/
theorem regionOf_storage {a : Word} (h : a.toNat < 0x100 ∨ (0x8000 ≤ a.toNat ∧ a.toNat < 0xFFFF)) :
    regionOf a = .lowRam ∨ regionOf a = .highRam :=
  h.imp regionOf_lowRam fun ⟨hlo, hhi⟩ => regionOf_highRam hlo hhi

theorem regionOf_eq_latch {a : Word} (h : a.toNat = 0xFFFF) : regionOf a = .latch := by
  simp [regionOf, h]

theorem region_of_isMutable {a : Word} (h : isMutable a.toNat = true) :
    regionOf a = .lowRam ∨ regionOf a = .highRam := by
  simp only [isMutable, Bool.or_eq_true, Bool.and_eq_true, decide_eq_true_eq] at h
  exact regionOf_storage h

/-! ## A byte read by region (R56) -/

theorem busRead_storage (s : State) {a : Word} (h : regionOf a = .lowRam ∨ regionOf a = .highRam) :
    busRead s a = .ok (s.mem.read a.toNat) := by
  rcases h with h | h <;> simp only [busRead, h]

/-- A read of ROM is answered by the image alone (R53). -/
theorem busRead_rom_congr {s t : State} (hc : t.cfg = s.cfg) {a : Word} (h : regionOf a = .rom) :
    busRead t a = busRead s a := by
  simp only [busRead, h, hc]

theorem busRead_rom_of_getElem?_eq_some {s : State} {a : Word} {v : Byte} (h : regionOf a = .rom)
    (hv : s.cfg.image[a.toNat - 0x100]? = some v) : busRead s a = .ok v := by
  simp only [busRead, h, hv]

theorem busRead_beyond_image {s : State} {a : Word} (h : regionOf a = .rom)
    (hl : s.cfg.image.length ≤ a.toNat - 0x100) : busRead s a = .error (.configError a) := by
  simp only [busRead, h, List.getElem?_eq_none hl]

theorem busRead_latch (s : State) {a : Word} (h : regionOf a = .latch) :
    busRead s a = .ok (latchByte s.ime) := by
  simp only [busRead, h]

/-! ## A byte write by region (R57) -/

theorem busWrite_storage (s : State) {a : Word} (v : Byte) (h : regionOf a = .lowRam ∨ regionOf a = .highRam) :
    busWrite s a v = .ok (s.setMem (s.mem.write a.toNat v)) := by
  rcases h with h | h <;> simp only [busWrite, h]

theorem busWrite_rom_addressError {s : State} {a : Word} (v : Byte) (h : regionOf a = .rom)
    (hp : s.cfg.romWrite = .addressError) : busWrite s a v = .error (.addressError a) := by
  simp only [busWrite, h, hp]

theorem busWrite_rom_ignore {s : State} {a : Word} (v : Byte) (h : regionOf a = .rom)
    (hp : s.cfg.romWrite = .ignore) : busWrite s a v = .ok s := by
  simp only [busWrite, h, hp]

theorem busWrite_latch (s : State) {a : Word} (v : Byte) (h : regionOf a = .latch) :
    busWrite s a v = .ok (s.setIme (latchBit s.cfg v)) := by
  simp only [busWrite, h]

/-- The default truth table of LATCH_WRITE, entry by entry: bit 0 of the byte written (R55, D5). -/
theorem defaultLatchWrite_getLsbD (v : Byte) :
    defaultLatchWrite.getLsbD v.toNat = decide (v.toNat % 2 = 1) := by
  revert v
  decide

/-! ## The byte accesses as the spec states them -/

/-- Settles O24: each region by its own rule; an offset inside the image has a byte. -/
theorem byteReadFollowsTheRegion : Obligations.ByteReadFollowsTheRegion := by
  intro s a
  refine ⟨fun h => busRead_storage s (regionOf_storage h), fun hlo hhi => ⟨fun hlt => ?_, fun hle => ?_⟩,
    fun h => busRead_latch s (regionOf_eq_latch h)⟩
  · have hv := List.getElem?_eq_getElem hlt
    exact ⟨_, hv, busRead_rom_of_getElem?_eq_some (regionOf_rom hlo hhi) hv⟩
  · exact busRead_beyond_image (regionOf_rom hlo hhi) hle

/-- Settles O25: each region by its own rule, ROM by each policy, the latch by its truth table. -/
theorem byteWriteFollowsTheRegion : Obligations.ByteWriteFollowsTheRegion := by
  intro s a v
  refine ⟨fun h => busWrite_storage s v (regionOf_storage h), fun hlo hhi => ?_, fun h => ?_⟩
  · exact ⟨busWrite_rom_addressError v (regionOf_rom hlo hhi), busWrite_rom_ignore v (regionOf_rom hlo hhi)⟩
  · have hw : busWrite s a v = .ok { s with ime := s.cfg.latchWrite.getLsbD v.toNat } :=
      busWrite_latch s v (regionOf_eq_latch h)
    refine ⟨hw, fun hd => ?_⟩
    rw [hw, hd, defaultLatchWrite_getLsbD]

/-- Settles O26: the cell is replaced in canonical storage, and no other field changes. -/
theorem storedByteIsReadBackAndNothingElseChanges :
    Obligations.StoredByteIsReadBackAndNothingElseChanges := by
  intro s t a v hwf ha ht
  have hr := region_of_isMutable ha
  have hmem : t = s.setMem (s.mem.write a.toNat v) :=
    Except.ok.inj (ht.symm.trans (busWrite_storage s v hr))
  refine ⟨busRead_busWrite_same ((State.wf_iff s).1 hwf).1 hr ht, fun b hb => busRead_busWrite_other ht hb, ?_,
    (busWrite_keeps ht).keepsInvariant.wf hwf⟩
  subst hmem
  rfl

/-! ## Word accesses (R58, R59, R60) -/

/-- Settles O27: the low byte's access first, then the high byte's at the next address. -/
theorem wordAccessIsTwoByteAccesses : Obligations.WordAccessIsTwoByteAccesses := by
  intro s a v
  rw [← loByte_eq_ofNat, ← hiByte_eq_ofNat]
  refine ⟨fun c hlo => ?_, fun lo hlo => ⟨fun c hhi => ?_, fun hi hhi => ?_⟩, fun c hlo => ?_, fun t hlo => ?_⟩
  · simp only [readWord, hlo, except_bind_error]
  · simp only [readWord, hlo, hhi, except_bind_ok, except_bind_error]
  · exact ⟨wordOf hi lo, by simp only [readWord, hlo, hhi, except_bind_ok], wordOf_toNat hi lo⟩
  · simp only [writeWord, hlo, except_bind_error]
  · simp only [writeWord, hlo, except_bind_ok]

/-! ## What an instruction and a run leave unchanged -/

/-- A fault leaves every byte of the bus as it was (60_exceptions.md R307). -/
theorem busRead_raise (s : State) (c : FaultCause) (b : Word) : busRead (s.raise c) b = busRead s b :=
  busRead_congr rfl rfl rfl b

/-- Settles O11: a completed instruction changes no byte outside those it stores to; a fault changes none. -/
theorem onlyStoredBytesChange : Obligations.OnlyStoredBytesChange := by
  intro i s t b he hb
  rcases exec_cases he with ⟨-, hframe, -⟩ | ⟨c, -, rfl⟩ | ⟨op, -, rfl⟩
  · exact hframe b hb
  · exact busRead_raise s c b
  · exact busRead_raise s _ b

/-- Settles O15: the image answers a read of ROM, and a run keeps the configuration it is part of. -/
theorem romReadsNeverChange : Obligations.RomReadsNeverChange :=
  fun ms _ _ _ hlo hhi h => busRead_rom_congr (runMoves_keepsInvariant ms h).cfg (regionOf_rom hlo hhi)

end Sys2Proof.Machine
end

section
/-! SUPPORT. The two opcode tables against the encoder: the bytes an entry takes from the stream, the instruction
it makes of them, and that `encode` gives these bytes back, entry by entry (30_encoding.md R81 to R84, R90 to
R92, R95). What `decode` answers follows from that. -/

namespace Sys2Proof

/-! ## An entry, its operand bytes and its instruction -/

/-- The bytes after the opcode byte that an entry takes (R82), for a second byte `n` and an operand word `nn`
(the low byte first, R84). -/
def Entry.operandBytes (e : Entry) (n : Byte) (nn : Word) : List Byte :=
  match e with
  | .op _ => []
  | .opD8 _ => [n]
  | .opD16 _ => [loByte nn, hiByte nn]
  | .cbOp => [n]

/-- The instruction an entry makes of its second byte `n` or its operand word `nn`. -/
def Entry.instr (e : Entry) (n : Byte) (nn : Word) : Instr :=
  match e with
  | .op i => i
  | .opD8 mk => mk n
  | .opD16 mk => mk nn
  | .cbOp => extendedEntry n

/-- How many operand bytes an entry takes does not depend on what they are. -/
theorem Entry.length_operandBytes (e : Entry) (n : Byte) (nn : Word) :
    (e.operandBytes n nn).length = (e.operandBytes 0 0).length := by
  cases e <;> rfl

theorem lengthOf_eq (op : Byte) : lengthOf op = ((primaryEntry op).operandBytes 0 0).length + 1 := by
  rw [lengthOf]
  cases primaryEntry op <;> rfl

theorem Entry.length_operandBytes_le (e : Entry) : (e.operandBytes 0 0).length ≤ 2 := by
  cases e <;> simp [operandBytes]

/-- Enough bytes for an entry begin with its operand bytes. -/
theorem Entry.exists_operandBytes (e : Entry) {tail : List Byte}
    (h : (e.operandBytes 0 0).length ≤ tail.length) : ∃ n nn rest, tail = e.operandBytes n nn ++ rest := by
  cases e with
  | op i => exact ⟨0, 0, tail, rfl⟩
  | opD8 mk | cbOp =>
    match tail, h with
    | n :: rest, _ => exact ⟨n, 0, rest, rfl⟩
  | opD16 mk =>
    match tail, h with
    | lo :: hi :: rest, _ => exact ⟨0, wordOf hi lo, rest, by simp [operandBytes]⟩

/-! ## What the decoder answers -/

/-- An opcode byte and the operand bytes of its entry decode to the entry's instruction. -/
theorem decode_operandBytes (op n : Byte) (nn : Word) (rest : List Byte) :
    decode (op :: ((primaryEntry op).operandBytes n nn ++ rest)) = .instr ((primaryEntry op).instr n nn) rest := by
  cases he : primaryEntry op <;> simp [decode, he, Entry.operandBytes, Entry.instr]

/-- With fewer bytes than that the decoder rejects (R81). -/
theorem decode_rejected {op : Byte} {tail : List Byte}
    (h : tail.length < ((primaryEntry op).operandBytes 0 0).length) : ∃ why, decode (op :: tail) = .rejected why := by
  cases he : primaryEntry op <;> rw [he] at h
  case op => exact absurd h (Nat.not_lt_zero _)
  case opD8 =>
    match tail, h with
    | [], _ => exact ⟨.noOperand, by simp only [decode, he]⟩
  case opD16 =>
    match tail, h with
    | [], _ | [_], _ => exact ⟨.noOperand, by simp only [decode, he]⟩
  case cbOp =>
    match tail, h with
    | [], _ => exact ⟨.noSecondOpcode, by simp only [decode, he]⟩

/-- What decodes is an opcode byte and the operand bytes of its entry. -/
theorem decode_cases {bytes rest : List Byte} {i : Instr} (h : decode bytes = .instr i rest) :
    ∃ op n nn, bytes = op :: ((primaryEntry op).operandBytes n nn ++ rest) ∧ i = (primaryEntry op).instr n nn := by
  match bytes with
  | [] => cases h
  | op :: tail =>
    rcases Nat.lt_or_ge tail.length ((primaryEntry op).operandBytes 0 0).length with hlt | hge
    · obtain ⟨why, hw⟩ := decode_rejected hlt
      cases h.symm.trans hw
    · obtain ⟨n, nn, rest', rfl⟩ := Entry.exists_operandBytes _ hge
      rw [decode_operandBytes] at h
      cases h
      exact ⟨op, n, nn, rfl, rfl⟩

/-! ## An opcode byte by its fields -/

/-- The byte with the fields x, y, z of R83. -/
def byteOfFields (x y z : Nat) : Byte := BitVec.ofNat 8 (x * 64 + y * 8 + z)

theorem byteOfFields_fields (op : Byte) : byteOfFields (fieldX op) (fieldY op) (fieldZ op) = op := by
  apply BitVec.eq_of_toNat_eq
  rw [byteOfFields, BitVec.toNat_ofNat, fieldX, fieldY, fieldZ]
  omega

theorem fieldP_eq (op : Byte) : fieldP op = fieldY op / 2 := by
  rw [fieldP, fieldY]
  omega

theorem fieldQ_eq (op : Byte) : fieldQ op = fieldY op % 2 := by
  rw [fieldQ, fieldY]
  omega

theorem fieldX_lt (op : Byte) : fieldX op < 4 := by
  rw [fieldX]
  omega

theorem fieldY_lt (op : Byte) : fieldY op < 8 := Nat.mod_lt _ (by decide)

theorem fieldZ_lt (op : Byte) : fieldZ op < 8 := Nat.mod_lt _ (by decide)

/-! ## The encoder gives an entry's bytes back -/

/-- `bytes` is the encoding of `i`, and `i` is an instruction of the machine. -/
abbrev Instr.HasBytes (i : Instr) (bytes : List Byte) : Prop := WellFormed i = true ∧ encode i = bytes

/-- The extended table (R92). -/
theorem extendedEntry_hasBytes (n : Byte) : (extendedEntry n).HasBytes [0xCB, n] := by
  revert n
  decide

/-- Block x = 1 of the primary table (R91), HALT's slot in it. -/
theorem ldInstr_hasBytes {op : Byte} (hx : fieldX op = 1) :
    (ldInstr (opd8Of (fieldY op)) (opd8Of (fieldZ op))).HasBytes [op] := by
  revert op
  decide

/-- Block x = 2 of the primary table. -/
theorem aluInstr_hasBytes {op : Byte} (hx : fieldX op = 2) :
    (aluInstr (aluOpOf (fieldY op)) (opd8Of (fieldZ op))).HasBytes [op] := by
  revert op
  decide

/-- Block x = 0 of the primary table, row by row, whatever the operand. -/
theorem entryBlock0_hasBytes {y z : Nat} (hy : y < 8) (hz : z < 8) (n : Byte) (nn : Word) :
    ((entryBlock0 y z (y / 2) (y % 2)).instr n nn).HasBytes
      (byteOfFields 0 y z :: (entryBlock0 y z (y / 2) (y % 2)).operandBytes n nn) := by
  interval_cases z <;> interval_cases y <;> exact ⟨rfl, rfl⟩

/-- Block x = 3, row by row; one of its rows is the escape to the extended table. -/
theorem entryBlock3_hasBytes {y z : Nat} (hy : y < 8) (hz : z < 8) (n : Byte) (nn : Word) :
    ((entryBlock3 y z (y / 2) (y % 2)).instr n nn).HasBytes
      (byteOfFields 3 y z :: (entryBlock3 y z (y / 2) (y % 2)).operandBytes n nn) := by
  rcases lt_trichotomy z 3 with hlt | rfl | hgt
  · interval_cases z <;> interval_cases y <;> exact ⟨rfl, rfl⟩
  · rcases lt_trichotomy y 1 with hlt | rfl | hgt
    · interval_cases y <;> exact ⟨rfl, rfl⟩
    · exact extendedEntry_hasBytes n
    · interval_cases y <;> exact ⟨rfl, rfl⟩
  · interval_cases z <;> interval_cases y <;> exact ⟨rfl, rfl⟩

/-- Every entry of the primary table, by its block. -/
theorem primaryEntry_hasBytes (op n : Byte) (nn : Word) :
    ((primaryEntry op).instr n nn).HasBytes (op :: (primaryEntry op).operandBytes n nn) := by
  have hop := byteOfFields_fields op
  have hlt := fieldX_lt op
  interval_cases hx : fieldX op <;> simp only [primaryEntry, hx, fieldP_eq, fieldQ_eq]
  · simpa only [hop] using entryBlock0_hasBytes (fieldY_lt op) (fieldZ_lt op) n nn
  · exact ldInstr_hasBytes hx
  · exact aluInstr_hasBytes hx
  · simpa only [hop] using entryBlock3_hasBytes (fieldY_lt op) (fieldZ_lt op) n nn

/-! ## Every instruction is some entry's -/

/-- The entry is found at the first byte of the encoding, its second byte next. -/
theorem exists_entry_of_encode {i : Instr} {op : Byte} {tail : List Byte} (nn : Word)
    (_ : encode i = op :: tail) (hi : (primaryEntry op).instr (tail.headD 0) nn = i) :
    ∃ op n nn, (primaryEntry op).instr n nn = i :=
  ⟨op, tail.headD 0, nn, hi⟩

/-- Every instruction but the bare escape has an entry: those with a word operand, and the others, whose operand
is the second byte if they have one. -/
theorem exists_entry {i : Instr} (h : WellFormed i = true) : ∃ op n nn, (primaryEntry op).instr n nn = i := by
  cases i with
  | prefixCb op2 => cases h
  | ldBcD16 nn | ldDeD16 nn | ldHlD16 nn | ldSpD16 nn | ldAtA16Sp nn | ldAtA16A nn | ldAAtA16 nn | jpA16 nn
    | jpNzA16 nn | jpZA16 nn | jpNcA16 nn | jpCA16 nn | callA16 nn | callNzA16 nn | callZA16 nn | callNcA16 nn
    | callCA16 nn =>
    exact exists_entry_of_encode nn rfl rfl
  | _ => exact exists_entry_of_encode 0 rfl rfl

/-! ## The round trips -/

/-- Settles O1: the instruction is some entry's, and that entry's bytes are its encoding. -/
theorem encodedInstructionDecodesBack : Obligations.EncodedInstructionDecodesBack := by
  intro i rest hwf
  obtain ⟨op, n, nn, rfl⟩ := exists_entry hwf
  rw [(primaryEntry_hasBytes op n nn).2]
  exact decode_operandBytes op n nn rest

/-- Settles O2: bytes that decode are an opcode byte and the operand bytes of its entry. -/
theorem decodedBytesAreTheEncoding : Obligations.DecodedBytesAreTheEncoding := by
  intro bytes rest i h
  obtain ⟨op, n, nn, rfl, rfl⟩ := decode_cases h
  obtain ⟨hwf, henc⟩ := primaryEntry_hasBytes op n nn
  exact ⟨hwf, by rw [henc]; rfl⟩

/-- Settles O3: the length is one more than the operand bytes of the first byte's entry. -/
theorem lengthIsFixedByTheFirstByte : Obligations.LengthIsFixedByTheFirstByte := by
  refine ⟨fun op => ?_, rfl, fun op tail rest i h => ?_, fun op tail hle => ?_, fun op tail hlt => ?_⟩
  · have := (primaryEntry op).length_operandBytes_le
    rw [lengthOf_eq]
    omega
  · obtain ⟨op', n, nn, heq, -⟩ := decode_cases h
    obtain ⟨rfl, rfl⟩ := List.cons.inj heq
    rw [lengthOf_eq, List.length_cons, List.length_append, Entry.length_operandBytes]
    omega
  · rw [lengthOf_eq] at hle
    obtain ⟨n, nn, rest, rfl⟩ := Entry.exists_operandBytes _ (Nat.le_of_succ_le_succ hle)
    exact ⟨_, rest, decode_operandBytes op n nn rest⟩
  · rw [lengthOf_eq] at hlt
    exact decode_rejected (Nat.lt_of_succ_lt_succ hlt)

/-- Settles O4: each word by the table. -/
theorem wordsDecodeAsTheSpecWritesThem : Obligations.WordsDecodeAsTheSpecWritesThem := by
  unfold Obligations.WordsDecodeAsTheSpecWritesThem
  decide

end Sys2Proof
end

section
/-! SUPPORT. The fetch of a step (30_encoding.md R80), its faults in their order (60_exceptions.md R309), and the
step made of it. -/

namespace Sys2Proof.Machine

/-! ## The step after its fetch -/

theorem step_of_fetch_ok {s : State} {i : Instr} (hr : s.run = .running) (hf : fetch s = .ok i) :
    step s = exec i s := by
  simp only [step, hr, hf]

theorem step_of_fetch_error {s : State} {c : FaultCause} (hr : s.run = .running) (hf : fetch s = .error c) :
    step s = .next (faultedAt s c) := by
  simp only [step, hr, hf]
  rfl

/-! ## A fetch that completes -/

/-- The bus answers these bytes, in rising address order from `a`. -/
def ReadsAs (s : State) (a : Word) (bytes : List Byte) : Prop :=
  match bytes with
  | [] => True
  | v :: rest => busRead s a = .ok v ∧ ReadsAs s (a + 1) rest

theorem readsAs_of_getElem {s : State} {bytes : List Byte} :
    ∀ {a : Word}, (∀ (k : Nat) (hk : k < bytes.length), busRead s (a + BitVec.ofNat 16 k) = .ok (bytes[k]'hk)) →
      ReadsAs s a bytes := by
  induction bytes with
  | nil => exact fun _ => trivial
  | cons v rest ih =>
    intro a h
    have hhead : busRead s a = .ok v := by simpa using h 0 (Nat.succ_pos _)
    refine ⟨hhead, ih fun k hk => ?_⟩
    have hnext : a + 1 + BitVec.ofNat 16 k = a + BitVec.ofNat 16 (k + 1) := by
      rw [Nat.add_comm k 1, BitVec.ofNat_add, BitVec.add_assoc]
      rfl
    rw [hnext]
    exact h (k + 1) (Nat.succ_lt_succ hk)

/-- The entry at 0xCB is the only escape: the extended table's encodings begin with that byte. -/
theorem eq_of_primaryEntry_eq_cbOp {op : Byte} (h : primaryEntry op = .cbOp) : op = 0xCB := by
  have hb := (primaryEntry_hasBytes op 0 0).2
  rw [h] at hb
  exact (List.cons.inj (hb.symm.trans (extendedEntry_hasBytes 0).2)).1

/-- The fetch of an opcode byte that is present, with the operand bytes of its entry behind it. -/
theorem fetch_eq_ok {s : State} {op n : Byte} {nn : Word}
    (hread : ReadsAs s s.pc (op :: (primaryEntry op).operandBytes n nn)) (hop : primaryAbsent s.cfg op = false)
    (hcb : op = 0xCB → extendedAbsent s.cfg n = false) : fetch s = .ok ((primaryEntry op).instr n nn) := by
  cases he : primaryEntry op <;> simp only [he, ReadsAs, Entry.operandBytes] at hread
  case cbOp =>
    have hop2 := hcb (eq_of_primaryEntry_eq_cbOp he)
    simp only [fetch, hread, hop, he, hop2, except_bind_ok, Bool.false_eq_true, if_false, Entry.instr]
  all_goals
    simp only [fetch, readWord, hread, hop, he, except_bind_ok, Bool.false_eq_true, if_false, wordOf_halves,
      Entry.instr]

/-- Settles O5: bytes that decode are the opcode byte and the operand bytes that the fetch reads. -/
theorem stepRunsTheDecodedInstruction : Obligations.StepRunsTheDecodedInstruction := by
  intro s bytes i hr hdec hread hop hcb
  obtain ⟨op, n, nn, rfl, rfl⟩ := decode_cases hdec
  refine step_of_fetch_ok hr (fetch_eq_ok (by simpa using readsAs_of_getElem hread) hop fun h => ?_)
  subst h
  exact hcb rfl

/-! ## A fetch that faults -/

theorem fetch_no_opcode {s : State} {c : FaultCause} (hread : busRead s s.pc = .error c) : fetch s = .error c := by
  simp only [fetch, hread, except_bind_error]

section
variable {s : State} {op : Byte} (hread : busRead s s.pc = .ok op)
include hread

theorem fetch_absent (ha : primaryAbsent s.cfg op = true) : fetch s = .error (.decodeError op) := by
  simp only [fetch, hread, except_bind_ok, ha, if_true]

theorem fetch_no_second_byte {c : FaultCause} (hop : primaryAbsent s.cfg op = false) (hlen : 2 ≤ lengthOf op)
    (hc : busRead s (s.pc + 1) = .error c) : fetch s = .error c := by
  cases he : primaryEntry op
  case op => simp [lengthOf, he] at hlen
  all_goals
    simp only [fetch, readWord, hread, hop, he, hc, except_bind_ok, except_bind_error, Bool.false_eq_true, if_false]

theorem fetch_no_third_byte {c : FaultCause} {n : Byte} (hop : primaryAbsent s.cfg op = false)
    (hlen : lengthOf op = 3) (hn : busRead s (s.pc + 1) = .ok n) (hc : busRead s (s.pc + 1 + 1) = .error c) :
    fetch s = .error c := by
  cases he : primaryEntry op
  case opD16 =>
    simp only [fetch, readWord, hread, hop, he, hn, hc, except_bind_ok, except_bind_error, Bool.false_eq_true,
      if_false]
  all_goals simp [lengthOf, he] at hlen

end

theorem fetch_second_absent {s : State} {op2 : Byte} (hread : busRead s s.pc = .ok 0xCB)
    (hop : primaryAbsent s.cfg 0xCB = false) (hn : busRead s (s.pc + 1) = .ok op2)
    (ha : extendedAbsent s.cfg op2 = true) : fetch s = .error (.decodeError op2) := by
  have he : primaryEntry 0xCB = .cbOp := rfl
  simp only [fetch, hread, hop, he, hn, ha, except_bind_ok, Bool.false_eq_true, if_false, if_true]

/-- Settles O6: one rule of the fetch per fault, in the order of R309. -/
theorem fetchFaultsAreTakenInOrder : Obligations.FetchFaultsAreTakenInOrder := by
  intro s op cause hr
  refine ⟨fun hc => ?_, fun hread ha => ?_, fun hread hop hlen hc => ?_, fun op2 hread hop hn ha => ?_,
    fun n hread hop hlen hn hc => ?_⟩ <;> apply step_of_fetch_error hr
  · exact fetch_no_opcode hc
  · exact fetch_absent hread ha
  · exact fetch_no_second_byte hread hop hlen hc
  · exact fetch_second_absent hread hop hn ha
  · exact fetch_no_third_byte hread hop hlen hn hc

end Sys2Proof.Machine
end

section
/-! SUPPORT. Storage at reset (70_reset_and_hazards.md R345) and the 8-bit register operands (30_encoding.md
R86). -/

namespace Sys2Proof.Machine

/-! ## Reset -/

/-- Settles O13: storage at reset is `RAM_INIT`, which a permitted configuration holds in canonical form. -/
theorem resetStorageIsCanonical : Obligations.ResetStorageIsCanonical := by
  refine ⟨by decide, fun cfg h => ?_⟩
  simp only [configWf, Bool.and_eq_true] at h
  obtain ⟨⟨-, hwf⟩, hin⟩ := h
  exact (State.wf_iff _).2 ⟨hwf, hin⟩

/-! ## The register operands -/

/-- Settles O19: the read-back of a register write, and that it leaves the other registers. -/
theorem registerOperandsReadAndWriteTheirRegister : Obligations.RegisterOperandsReadAndWriteTheirRegister := by
  refine ⟨rfl, fun s r q v => ⟨rfl, rfl, ?_⟩, fun s v => ⟨rfl, rfl⟩⟩
  by_cases h : q = r
  · rw [if_pos h, h, getReg8_setReg8]
  · rw [if_neg h, getReg8_setReg8_ne s r q v h]

end Sys2Proof.Machine
end

section
/-! SUPPORT. The 8-bit loads (40_load8.md R100 to R118): the outcome of an instruction that makes one bus access,
the high page, and each family's outcome. A statement's instruction is its family's meaning by unfolding `exec` at
a constructor. -/

namespace Sys2Proof.Machine

/-! ## An instruction with one bus access -/

theorem OnRead.of_complete (s : State) (a : Word) (after : Byte → State) :
    OnRead s a (complete s ((busRead s a).bind fun v => .ok (after v))) after :=
  ⟨fun v h => by rw [h, except_bind_ok, complete_ok], fun c h => by rw [h, except_bind_error, complete_error]; rfl⟩

theorem OnWrite.of_complete (s : State) (a : Word) (v : Byte) (after : State → State) :
    OnWrite s a v (complete s ((busWrite s a v).bind fun t => .ok (after t))) after :=
  ⟨fun t h => by rw [h, except_bind_ok, complete_ok], fun c h => by rw [h, except_bind_error, complete_error]; rfl⟩

/-! ## The high page (30_encoding.md R84) -/

theorem highPage_toNat (n : Byte) : (highPage n).toNat = 0xFF00 + n.toNat := by
  have := n.isLt
  simp only [highPage, BitVec.toNat_add, BitVec.toNat_setWidth, BitVec.reduceToNat]
  omega

theorem highPage_eq_ofNat (n : Byte) : highPage n = BitVec.ofNat 16 (0xFF00 + n.toNat) := by
  rw [← highPage_toNat, BitVec.ofNat_toNat, BitVec.setWidth_eq]

/-- The high page lies above ROM, so no access to it faults. -/
theorem regionOf_highPage_ne_rom (n : Byte) : regionOf (highPage n) ≠ .rom := by
  have ha := highPage_toNat n
  rcases Nat.lt_or_ge (highPage n).toNat 0xFFFF with hlt | hge
  · rw [regionOf_highRam (by omega) hlt]
    decide
  · have := n.isLt
    rw [regionOf_eq_latch (by omega)]
    decide

theorem exists_busRead_highPage (s : State) (n : Byte) : ∃ v, busRead s (highPage n) = .ok v := by
  cases h : busRead s (highPage n) with
  | ok v => exact ⟨v, rfl⟩
  | error c => exact absurd (busRead_error h).1 (regionOf_highPage_ne_rom n)

theorem exists_busWrite_highPage (s : State) (n v : Byte) : ∃ t, busWrite s (highPage n) v = .ok t := by
  cases h : busWrite s (highPage n) v with
  | ok t => exact ⟨t, rfl⟩
  | error c => exact absurd (busWrite_error h).1 (regionOf_highPage_ne_rom n)

/-! ## LD between 8-bit operands -/

/-- The 64 words `01yyyzzz` (30_encoding.md R91). -/
theorem decode_ld (y z : Fin 8) : decode [BitVec.ofNat 8 (0x40 + 8 * y.val + z.val)] =
    .instr (ldInstr (opd8Of y.val) (opd8Of z.val)) [] := by
  revert y z
  decide

theorem exec_ldInstr_reg (dst : Reg8) (src : Opd8) (s : State) :
    exec (ldInstr (.reg dst) src) s = load8 (.reg dst) src s := by
  cases src with
  | reg src => cases dst <;> cases src <;> rfl
  | atHl => cases dst <;> rfl

/-- The slot of `LD (HL),(HL)` is HALT's, so a store to (HL) has a register source. -/
theorem exec_ldInstr_atHl (src : Reg8) (s : State) :
    exec (ldInstr .atHl (.reg src)) s = load8 .atHl (.reg src) s := by
  cases src <;> rfl

/-- Settles O29: a register source reads at once, and a (HL) form makes one access to memory. -/
theorem loadsBetweenOperands : Obligations.LoadsBetweenOperands := by
  refine ⟨decode_ld, fun dst src s => ?_, fun dst s => ?_, fun src s => ?_⟩
  · rw [exec_ldInstr_reg]
    rfl
  · rw [exec_ldInstr_reg]
    exact OnRead.of_complete ..
  · rw [exec_ldInstr_atHl]
    exact OnWrite.of_complete ..

/-! ## LD of an immediate byte -/

theorem exec_ldImmInstr (dst : Opd8) (n : Byte) (s : State) : exec (ldImmInstr dst n) s = load8Imm dst n s := by
  cases dst with
  | reg dst => cases dst <;> rfl
  | atHl => rfl

/-- The rows `00yyy110` (30_encoding.md R91). -/
theorem primaryEntry_ldImm (y : Fin 8) :
    primaryEntry (BitVec.ofNat 8 (8 * y.val + 6)) = .opD8 (ldImmInstr (opd8Of y.val)) := by
  fin_cases y <;> rfl

/-- Settles O30: a register is written at once, and the (HL) form makes one write. -/
theorem loadsOfAnImmediateByte : Obligations.LoadsOfAnImmediateByte := by
  refine ⟨fun y n => ?_, fun dst n s => ?_, fun n s => ?_⟩
  · simp only [decode, primaryEntry_ldImm]
  · rw [exec_ldImmInstr]
    rfl
  · rw [exec_ldImmInstr]
    exact OnWrite.of_complete ..

/-! ## Loads and stores of A -/

theorem loadA_onRead (a len : Word) (s : State) :
    OnRead s a (loadA a len s) fun v => { s with regs := { s.regs with a := v }, pc := s.pc + len } :=
  OnRead.of_complete ..

theorem storeA_onWrite (a len : Word) (s : State) :
    OnWrite s a s.regs.a (storeA a len s) fun t => { t with pc := s.pc + len } :=
  OnWrite.of_complete ..

theorem loadA_highPage (n : Byte) (len : Word) (s : State) :
    ∃ v, busRead s (BitVec.ofNat 16 (0xFF00 + n.toNat)) = .ok v ∧
      loadA (highPage n) len s = .next { s with regs := { s.regs with a := v }, pc := s.pc + len } := by
  rw [← highPage_eq_ofNat]
  obtain ⟨v, hv⟩ := exists_busRead_highPage s n
  exact ⟨v, hv, (loadA_onRead _ len s).1 v hv⟩

theorem storeA_highPage (n : Byte) (len : Word) (s : State) :
    ∃ t, busWrite s (BitVec.ofNat 16 (0xFF00 + n.toNat)) s.regs.a = .ok t ∧
      storeA (highPage n) len s = .next { t with pc := s.pc + len } := by
  rw [← highPage_eq_ofNat]
  obtain ⟨t, ht⟩ := exists_busWrite_highPage s n s.regs.a
  exact ⟨t, ht, (storeA_onWrite _ len s).1 t ht⟩

/-- Settles O31: one read each, and none faults in the high page. -/
theorem loadsOfAFromMemory : Obligations.LoadsOfAFromMemory :=
  ⟨rfl, rfl, fun _ _ => rfl, fun _ => rfl, rfl, fun s =>
    ⟨loadA_onRead _ 1 s, loadA_onRead _ 1 s, fun nn => loadA_onRead nn 3 s, fun n => loadA_highPage n 2 s,
      loadA_highPage s.regs.c 1 s⟩⟩

/-- Settles O32: one write each, and none faults in the high page. -/
theorem storesOfAToMemory : Obligations.StoresOfAToMemory :=
  ⟨rfl, rfl, fun _ _ => rfl, fun _ => rfl, rfl, fun s =>
    ⟨storeA_onWrite _ 1 s, storeA_onWrite _ 1 s, fun nn => storeA_onWrite nn 3 s, fun n => storeA_highPage n 2 s,
      storeA_highPage s.regs.c 1 s⟩⟩

/-! ## Loads and stores of A that move HL -/

theorem loadAStep_onRead (d : Word) (s : State) :
    OnRead s (getReg16 s .hl) (loadAStep d s) fun v =>
      { setReg16 { s with regs := { s.regs with a := v } } .hl (getReg16 s .hl + d) with pc := s.pc + 1 } :=
  OnRead.of_complete ..

theorem storeAStep_onWrite (d : Word) (s : State) :
    OnWrite s (getReg16 s .hl) s.regs.a (storeAStep d s) fun t =>
      { setReg16 t .hl (getReg16 s .hl + d) with pc := s.pc + 1 } :=
  OnWrite.of_complete ..

/-- Settles O33: one access at the old HL, which then moves by 1 or by -1. -/
theorem loadsAndStoresThatMoveHl : Obligations.LoadsAndStoresThatMoveHl := by
  refine ⟨rfl, rfl, rfl, rfl, fun s => ?_⟩
  rw [sub_eq_add_neg]
  exact ⟨storeAStep_onWrite 1 s, storeAStep_onWrite (-1) s, loadAStep_onRead 1 s, loadAStep_onRead (-1) s⟩

end Sys2Proof.Machine
end

section
/-! SUPPORT. The 16-bit loads and the stack (41_load16_stack.md R130 to R139): SP plus a displacement, the outcome
of an instruction that pushes or pops, and a word stored in mutable storage read back. -/

namespace Sys2Proof.Machine

/-! ## LD r16,d16, LD (a16),SP and LD SP,HL -/

/-- The rows `00pp0001` (30_encoding.md R91). -/
theorem primaryEntry_ld16 (p : Fin 4) :
    primaryEntry (BitVec.ofNat 8 (0x01 + 16 * p.val)) = .opD16 (ld16Instr (reg16Of p.val)) := by
  fin_cases p <;> rfl

theorem exec_ld16Instr (r : Reg16) (nn : Word) (s : State) : exec (ld16Instr r nn) s = load16Imm r nn s := by
  cases r <;> rfl

theorem storeSp_of_writeWord_ok {s t : State} {nn : Word} (h : writeWord s nn s.sp = .ok t) :
    storeSp nn s = .next { t with pc := s.pc + 3 } := by
  rw [storeSp, h]
  rfl

theorem storeSp_of_writeWord_error {s : State} {nn : Word} {c : FaultCause}
    (h : writeWord s nn s.sp = .error c) : storeSp nn s = .next (faultedAt s c) := by
  rw [storeSp, h]
  rfl

/-- Settles O34: a register is written at once, and SP is stored by one word write. -/
theorem sixteenBitLoads : Obligations.SixteenBitLoads := by
  refine ⟨fun p lo hi => ?_, fun _ _ => rfl, rfl, exec_ld16Instr,
    fun _ _ => ⟨fun _ => storeSp_of_writeWord_ok, fun _ => storeSp_of_writeWord_error⟩, fun _ => rfl⟩
  simp only [decode, primaryEntry_ld16]

/-! ## SP plus a displacement (R135, 43_alu16.md R183) -/

theorem toInt_eq_signedByte (n : Byte) : n.toInt = signedByte n := by
  rw [BitVec.toInt_eq_toNat_cond, signedByte]
  split <;> split <;> omega

/-- The displacement is added modulo 65536, so it may be added as a signed number. -/
theorem add_sext16 (sp : Word) (n : Byte) : sp + sext16 n = offsetSp sp n := by
  rw [offsetSp, BitVec.ofInt_add, BitVec.ofInt_natCast, BitVec.ofNat_toNat, BitVec.setWidth_eq, sext16,
    BitVec.signExtend, toInt_eq_signedByte]

theorem spOffsetFlags_eq (sp : Word) (n : Byte) : spOffsetFlags sp n = offsetFlags sp n := by
  have hlo : (loByte sp).toNat = sp.toNat % 256 := by
    rw [loByte_eq_ofNat, BitVec.toNat_ofNat, Nat.mod_mod]
  have hnibble : sp.toNat % 256 % 16 = sp.toNat % 16 := Nat.mod_mod_of_dvd _ (by decide)
  rw [spOffsetFlags, offsetFlags, halfCarryAdd, carryAdd, and_0xF_toNat, and_0xF_toNat, hlo, hnibble]

/-- Settles O35: the signed sum, and the carries of the unsigned sum of the low bytes. -/
theorem stackPointerPlusDisplacement : Obligations.StackPointerPlusDisplacement := by
  refine ⟨fun _ => ⟨rfl, rfl⟩, fun n s => ?_⟩
  rw [← add_sext16, ← spOffsetFlags_eq]
  exact ⟨rfl, rfl⟩

/-! ## An instruction that pushes or pops (R130, R131) -/

theorem OnPush.of_complete (s : State) (v : Word) (after : State → State) :
    OnPush s v (complete s ((push16 s v).bind fun t => .ok (after t))) after :=
  ⟨fun t h => by rw [push16, h]; rfl, fun c h => by rw [push16, h]; rfl⟩

theorem OnPop.of_complete (s : State) (after : Word × State → State) :
    OnPop s (complete s ((pop16 s).bind fun p => .ok (after p))) fun v => after (v, s.setSp (s.sp + 2)) :=
  ⟨fun v h => by rw [pop16, h]; rfl, fun c h => by rw [pop16, h]; rfl⟩

/-! ## PUSH and POP -/

/-- The words `11pp0101` and `11pp0001` (30_encoding.md R91). -/
theorem decode_push_pop (p : Fin 4) :
    decode [BitVec.ofNat 8 (0xC5 + 16 * p.val)] = .instr (pushInstr (stk16Of p.val)) [] ∧
      decode [BitVec.ofNat 8 (0xC1 + 16 * p.val)] = .instr (popInstr (stk16Of p.val)) [] := by
  revert p
  decide

theorem exec_pushInstr (r : Stk16) (s : State) : exec (pushInstr r) s = push r s := by
  cases r <;> rfl

theorem exec_popInstr (r : Stk16) (s : State) : exec (popInstr r) s = pop r s := by
  cases r <;> rfl

theorem push_onPush (r : Stk16) (s : State) :
    OnPush s (getStk16 s r) (push r s) fun t => { t with pc := s.pc + 1 } :=
  OnPush.of_complete ..

theorem pop_onPop (r : Stk16) (s : State) :
    OnPop s (pop r s) fun v => (setStk16 (s.setSp (s.sp + 2)) r v).setPc (s.pc + 1) :=
  OnPop.of_complete ..

/-- What POP AF puts into the flags (R138). -/
theorem unpackFlags_loByte (v : Word) : unpackFlags (loByte v) =
    { z := v.getLsbD 7, n := v.getLsbD 6, h := v.getLsbD 5, c := v.getLsbD 4 } := by
  simp [unpackFlags, loByte]

/-- POP AF with A as the word's high half and the flags as bits 7 to 4 of it (R138). -/
theorem popAf_onPop (s : State) : OnPop s (exec .popAf s) fun v =>
    { s with
      regs := { s.regs with a := BitVec.ofNat 8 (v.toNat / 256) }
      flags := { z := v.getLsbD 7, n := v.getLsbD 6, h := v.getLsbD 5, c := v.getLsbD 4 }
      sp := s.sp + 2
      pc := s.pc + 1 } := by
  simp only [← hiByte_eq_ofNat, ← unpackFlags_loByte]
  exact pop_onPop .af s

/-- Settles O36: one word write below SP, or one word read at SP. -/
theorem pushAndPop : Obligations.PushAndPop :=
  ⟨decode_push_pop, fun s => ⟨push_onPush .bc s, push_onPush .de s, push_onPush .hl s, push_onPush .af s,
    pop_onPop .bc s, pop_onPop .de s, pop_onPop .hl s, popAf_onPop s⟩⟩

/-! ## A word in mutable storage -/

theorem word_ne_succ (a : Word) : a ≠ a + 1 := by
  bv_omega

/-- Two cells are written, and nothing else in the state changes (R59). -/
theorem writeWord_storage (s : State) {a : Word} (v : Word) (hlo : isMutable a.toNat = true)
    (hhi : isMutable (a + 1).toNat = true) : ∃ m, writeWord s a v = .ok (s.setMem m) := by
  rw [writeWord, busWrite_storage s _ (region_of_isMutable hlo), except_bind_ok,
    busWrite_storage _ _ (region_of_isMutable hhi)]
  exact ⟨_, rfl⟩

/-- The low byte is still there after the write of the high byte, whose address is another one. -/
theorem readWord_writeWord_same {s t : State} {a v : Word} (hwf : s.mem.wf = true)
    (hlo : isMutable a.toNat = true) (hhi : isMutable (a + 1).toNat = true) (h : writeWord s a v = .ok t) :
    readWord t a = .ok v := by
  obtain ⟨u, hu, ht⟩ := writeWord_cases h
  have hreadLo : busRead t a = .ok (loByte v) :=
    (busRead_busWrite_other ht (word_ne_succ a)).trans (busRead_busWrite_same hwf (region_of_isMutable hlo) hu)
  have hreadHi : busRead t (a + 1) = .ok (hiByte v) :=
    busRead_busWrite_same ((busWrite_keeps hu).wf hwf) (region_of_isMutable hhi) ht
  rw [readWord, hreadLo, except_bind_ok, hreadHi, except_bind_ok, wordOf_halves]

theorem readWord_congr {s t : State} (hm : t.mem = s.mem) (hi : t.ime = s.ime) (hc : t.cfg = s.cfg)
    (a : Word) : readWord t a = readWord s a := by
  simp only [readWord, busRead_congr hm hi hc]

/-! ## Push then pop (R137, 70_reset_and_hazards.md R353 d) -/

/-- What a pair gives, put back into the same registers and flags, leaves them as they were. -/
theorem setStk16_getStk16 {s t : State} (hr : t.regs = s.regs) (hf : t.flags = s.flags) (r : Stk16) :
    setStk16 t r (getStk16 s r) = t := by
  cases r <;>
    simp [setStk16, getStk16, setReg16, getReg16, unpackFlags_packFlags, State.setRegs, State.setA,
      State.setFlags, ← hr, ← hf]

/-- The state after a push into mutable storage, which is left as `m`. -/
def State.pushed (s : State) (m : Memory) : State := ((s.setMem m).setSp (s.sp - 2)).setPc (s.pc + 1)

/-- A pop of the pair that was pushed puts its value back, and SP where it was. -/
theorem pop_pushed {r : Stk16} {s : State} {m : Memory}
    (h : readWord (s.setMem m) (s.sp - 2) = .ok (getStk16 s r)) :
    pop r (s.pushed m) = .next { s with mem := m, pc := s.pc + 1 + 1 } := by
  have hread : readWord (s.pushed m) (s.pushed m).sp = .ok (getStk16 s r) :=
    (readWord_congr rfl rfl rfl _).trans h
  have hsp : (s.pushed m).sp + 2 = s.sp := BitVec.sub_add_cancel ..
  rw [(pop_onPop r _).1 _ hread]
  beta_reduce
  rw [hsp, setStk16_getStk16 (by rfl) (by rfl)]
  rfl

/-- Settles O37: the word pushed reads back, the pair it is put into is unchanged, and SP returns. -/
theorem pushThenPopIsIdempotent : Obligations.PushThenPopIsIdempotent := by
  intro r s hwf hlo hhi
  obtain ⟨m, hm⟩ := writeWord_storage s (getStk16 s r) hlo hhi
  have hread := readWord_writeWord_same ((State.wf_iff s).1 hwf).1 hlo hhi hm
  refine ⟨s.pushed m, ?_, ?_, fun b hb => ?_⟩
  · rw [exec_pushInstr]
    exact (push_onPush r s).1 _ hm
  · rw [exec_popInstr]
    exact pop_pushed hread
  · simp only [pushBytes, List.mem_cons, List.not_mem_nil, or_false, not_or] at hb
    obtain ⟨hne, hne'⟩ := hb
    have hframe : busRead (s.setMem m) b = busRead s b := busRead_writeWord_other hm hne hne'
    exact (busRead_congr rfl rfl rfl b).trans hframe

end Sys2Proof.Machine
end

section
/-! SUPPORT. The 8-bit arithmetic and logic (42_alu8.md R140 to R171): results and carries as exact numbers, and
the outcome of an instruction that reads, or reads and rewrites, one 8-bit operand. -/

namespace Sys2Proof.Machine

/-! ## An instruction with one 8-bit operand -/

theorem OnOperand.of_complete (s : State) (o : Opd8) (after : Byte → State) :
    OnOperand s o (complete s ((readOpd8 s o).bind fun v => .ok (after v))) after :=
  ⟨fun v h => by rw [h, except_bind_ok, complete_ok], fun c h => by rw [h, except_bind_error, complete_error]; rfl⟩

/-- The read faults before the write is tried (60_exceptions.md R309). -/
theorem OnModify.of_complete (s : State) (o : Opd8) (f : Byte → Byte) (after : Byte → State → State) :
    OnModify s o f
      (complete s ((readOpd8 s o).bind fun v => (writeOpd8 s o (f v)).bind fun t => .ok (after v t))) after := by
  refine ⟨fun c hread => ?_, fun v hread => ⟨fun t hwrite => ?_, fun c hwrite => ?_⟩⟩
  · rw [hread, except_bind_error, complete_error]
    rfl
  · rw [hread, except_bind_ok, hwrite, except_bind_ok, complete_ok]
  · rw [hread, except_bind_ok, hwrite, except_bind_error, complete_error]
    rfl

/-! ## The accumulator instructions (30_encoding.md R89, R91) -/

/-- The 64 words `10yyyzzz`. -/
theorem decode_alu (y z : Fin 8) : decode [BitVec.ofNat 8 (0x80 + 8 * y.val + z.val)] =
    .instr (aluInstr (aluOpOf y.val) (opd8Of z.val)) [] := by
  revert y z
  decide

theorem exec_aluInstr (op : AluOp) (src : Opd8) (s : State) : exec (aluInstr op src) s = aluOpd op src s := by
  cases src with
  | reg r => cases op <;> cases r <;> rfl
  | atHl => cases op <;> rfl

/-- One read of the operand, then the operation of A with it. -/
theorem aluInstr_onOperand (op : AluOp) (src : Opd8) (s : State) :
    OnOperand s src (exec (aluInstr op src) s) fun b => aluStep op b 1 s := by
  rw [exec_aluInstr]
  exact OnOperand.of_complete ..

/-! ## ADD and ADC -/

theorem toNat_bitByte (c : Bool) : (bitByte c).toNat = c.toNat := by
  cases c <;> rfl

theorem add_bitByte_eq_ofNat (a b : Byte) (c : Bool) :
    a + b + bitByte c = BitVec.ofNat 8 (a.toNat + b.toNat + c.toNat) := by
  simp only [← toNat_bitByte, BitVec.ofNat_add, BitVec.ofNat_toNat, BitVec.setWidth_eq]

theorem isZero_ofNat (n : Nat) : isZero (BitVec.ofNat 8 n) = decide (n % 256 = 0) := by
  rw [isZero_eq, BitVec.toNat_ofNat]

theorem halfCarryAdd3_eq (a b : Byte) (c : Bool) :
    halfCarryAdd3 a b c = decide (a.toNat % 16 + b.toNat % 16 + c.toNat > 15) := by
  rw [halfCarryAdd3, and_0xF_toNat, and_0xF_toNat]

/-- ADD is ADC with no carry in. -/
theorem addResult_eq_adcResult (a b : Byte) : addResult a b = adcResult a b false := by
  have hsum : a + b + bitByte false = a + b := BitVec.add_zero _
  rw [adcResult, hsum]
  rfl

theorem aluStep_adc (b : Byte) (len : Word) (s : State) :
    aluStep .adc b len s = sumIntoA s b s.flags.c len := by
  simp only [aluStep, aluResult, adcResult, add_bitByte_eq_ofNat, isZero_ofNat, halfCarryAdd3_eq]
  rfl

theorem aluStep_add (b : Byte) (len : Word) (s : State) : aluStep .add b len s = sumIntoA s b false len := by
  simp only [aluStep, aluResult, addResult_eq_adcResult, adcResult, add_bitByte_eq_ofNat, isZero_ofNat,
    halfCarryAdd3_eq]
  rfl

/-- Settles O38: the wrapped sum is the exact one narrowed, and ADD takes no carry in. -/
theorem addAndAddWithCarry : Obligations.AddAndAddWithCarry := by
  refine ⟨fun z => ⟨decode_alu 0 z, decode_alu 1 z⟩, fun _ => ⟨rfl, rfl⟩, fun s => ?_⟩
  simp only [← aluStep_add, ← aluStep_adc]
  exact ⟨fun src => aluInstr_onOperand .add src s, fun src => aluInstr_onOperand .adc src s,
    fun _ => rfl, fun _ => rfl⟩

/-! ## SUB, SBC and CP -/

/-- Subtraction modulo 256 is exact subtraction, narrowed. -/
theorem ofInt_sub_toNat (i : Int) (b : Byte) : BitVec.ofInt 8 (i - b.toNat) = BitVec.ofInt 8 i - b := by
  rw [Int.sub_eq_add_neg, BitVec.ofInt_add, BitVec.ofInt_neg, BitVec.ofInt_natCast, BitVec.ofNat_toNat,
    BitVec.setWidth_eq, ← BitVec.sub_eq_add_neg]

theorem sub_bitByte_eq_ofInt (a b : Byte) (c : Bool) :
    a - b - bitByte c = BitVec.ofInt 8 ((a.toNat : Int) - b.toNat - c.toNat) := by
  rw [← toNat_bitByte, ofInt_sub_toNat, ofInt_sub_toNat, BitVec.ofInt_natCast, BitVec.ofNat_toNat,
    BitVec.setWidth_eq]

theorem isZero_ofInt (i : Int) : isZero (BitVec.ofInt 8 i) = decide (i % 256 = 0) := by
  rw [isZero_eq, BitVec.toNat_ofInt, decide_eq_decide]
  omega

theorem halfCarrySub3_eq (a b : Byte) (c : Bool) :
    halfCarrySub3 a b c = decide (a.toNat % 16 < b.toNat % 16 + c.toNat) := by
  rw [halfCarrySub3, and_0xF_toNat, and_0xF_toNat]

/-- SUB is SBC with no borrow in. -/
theorem subResult_eq_sbcResult (a b : Byte) : subResult a b = sbcResult a b false := by
  have hdiff : a - b - bitByte false = a - b := BitVec.sub_zero _
  rw [sbcResult, hdiff]
  rfl

theorem sbcResult_flags (a b : Byte) (c : Bool) : (sbcResult a b c).flags = differenceFlags a b c := by
  simp only [sbcResult, differenceFlags, sub_bitByte_eq_ofInt, isZero_ofInt, halfCarrySub3_eq, carrySub3]

theorem sbcResult_value (a b : Byte) (c : Bool) :
    (sbcResult a b c).value = BitVec.ofInt 8 ((a.toNat : Int) - b.toNat - c.toNat) :=
  sub_bitByte_eq_ofInt a b c

theorem aluStep_sbc (b : Byte) (len : Word) (s : State) :
    aluStep .sbc b len s = differenceIntoA s b s.flags.c len := by
  rw [aluStep, aluResult, sbcResult_flags, sbcResult_value]
  rfl

theorem aluStep_sub (b : Byte) (len : Word) (s : State) :
    aluStep .sub b len s = differenceIntoA s b false len := by
  rw [aluStep, aluResult, subResult_eq_sbcResult, sbcResult_flags, sbcResult_value]
  rfl

/-- A is written with its own value, which leaves it as it was. -/
theorem aluStep_cp (b : Byte) (len : Word) (s : State) :
    aluStep .cp b len s = { s with flags := differenceFlags s.regs.a b false, pc := s.pc + len } := by
  rw [aluStep, aluResult, cpResult, subResult_eq_sbcResult, sbcResult_flags]
  rfl

/-- Settles O39: the wrapped difference is the exact one narrowed, and SUB takes no borrow in. -/
theorem subtractAndSubtractWithCarry : Obligations.SubtractAndSubtractWithCarry := by
  refine ⟨fun z => ⟨decode_alu 2 z, decode_alu 3 z⟩, fun _ => ⟨rfl, rfl⟩, fun s => ?_⟩
  simp only [← aluStep_sub, ← aluStep_sbc]
  exact ⟨fun src => aluInstr_onOperand .sub src s, fun src => aluInstr_onOperand .sbc src s,
    fun _ => rfl, fun _ => rfl⟩

/-- Settles O41: the flags are those of SUB, and A keeps its value. -/
theorem compareSetsTheFlagsOfSubtract : Obligations.CompareSetsTheFlagsOfSubtract := by
  refine ⟨decode_alu 7, fun _ => rfl, fun s => ?_⟩
  simp only [← aluStep_cp]
  exact ⟨fun src => aluInstr_onOperand .cp src s, fun _ => rfl⟩

/-! ## AND, XOR and OR -/

theorem aluStep_and (b : Byte) (len : Word) (s : State) :
    aluStep .and b len s = logicIntoA s (s.regs.a &&& b) true len := by
  rw [aluStep, aluResult, andResult, isZero_eq]
  rfl

theorem aluStep_xor (b : Byte) (len : Word) (s : State) :
    aluStep .xor b len s = logicIntoA s (s.regs.a ^^^ b) false len := by
  rw [aluStep, aluResult, xorResult, isZero_eq]
  rfl

theorem aluStep_or (b : Byte) (len : Word) (s : State) :
    aluStep .or b len s = logicIntoA s (s.regs.a ||| b) false len := by
  rw [aluStep, aluResult, orResult, isZero_eq]
  rfl

/-- Settles O40: each operation with the flag pattern of its rule. -/
theorem logicOperations : Obligations.LogicOperations := by
  refine ⟨fun z => ⟨decode_alu 4 z, decode_alu 5 z, decode_alu 6 z⟩, fun _ => ⟨rfl, rfl, rfl⟩, fun s => ?_⟩
  simp only [← aluStep_and, ← aluStep_xor, ← aluStep_or]
  exact ⟨fun src => aluInstr_onOperand .and src s, fun src => aluInstr_onOperand .xor src s,
    fun src => aluInstr_onOperand .or src s, fun _ => rfl, fun _ => rfl, fun _ => rfl⟩

/-! ## INC and DEC -/

/-- The words `00yyy100` and `00yyy101` (30_encoding.md R91). -/
theorem decode_inc8_dec8 (y : Fin 8) :
    decode [BitVec.ofNat 8 (8 * y.val + 4)] = .instr (inc8Instr (opd8Of y.val)) [] ∧
      decode [BitVec.ofNat 8 (8 * y.val + 5)] = .instr (dec8Instr (opd8Of y.val)) [] := by
  revert y
  decide

theorem exec_inc8Instr (o : Opd8) (s : State) : exec (inc8Instr o) s = inc8 o s := by
  cases o with
  | reg r => cases r <;> rfl
  | atHl => rfl

theorem exec_dec8Instr (o : Opd8) (s : State) : exec (dec8Instr o) s = dec8 o s := by
  cases o with
  | reg r => cases r <;> rfl
  | atHl => rfl

theorem add_one_eq_ofNat (v : Byte) : v + 1 = BitVec.ofNat 8 (v.toNat + 1) := by
  bv_omega

/-- DEC adds 255, which is -1 modulo 256. -/
theorem sub_one_eq_ofNat (v : Byte) : v - 1 = BitVec.ofNat 8 (v.toNat + 255) := by
  bv_omega

theorem halfCarryAdd_one (v : Byte) : halfCarryAdd v 1 = decide (v.toNat % 16 = 15) := by
  have hone : ((1 : Byte) &&& 0xF).toNat = 1 := rfl
  rw [halfCarryAdd, and_0xF_toNat v, hone, decide_eq_decide]
  omega

theorem halfCarrySub_one (v : Byte) : halfCarrySub v 1 = decide (v.toNat % 16 = 0) := by
  rw [halfCarrySub, and_0xF_toNat v, decide_eq_decide]
  exact Nat.lt_one_iff

theorem incResult_eq (v : Byte) (f : Flags) : incResult v f =
    { value := BitVec.ofNat 8 (v.toNat + 1),
      flags := { z := decide (v.toNat = 255), n := false, h := decide (v.toNat % 16 = 15), c := f.c } } := by
  have hz : (v.toNat + 1) % 256 = 0 ↔ v.toNat = 255 := by
    have := v.isLt
    omega
  rw [incResult, halfCarryAdd_one, add_one_eq_ofNat, isZero_ofNat, decide_eq_decide.2 hz]

theorem decResult_eq (v : Byte) (f : Flags) : decResult v f =
    { value := BitVec.ofNat 8 (v.toNat + 255),
      flags := { z := decide (v.toNat = 1), n := true, h := decide (v.toNat % 16 = 0), c := f.c } } := by
  have hz : (v.toNat + 255) % 256 = 0 ↔ v.toNat = 1 := by
    have := v.isLt
    omega
  rw [decResult, halfCarrySub_one, sub_one_eq_ofNat, isZero_ofNat, decide_eq_decide.2 hz]

/-- Settles O42: one read, then one write of the byte changed by one. -/
theorem incrementAndDecrementByte : Obligations.IncrementAndDecrementByte := by
  refine ⟨decode_inc8_dec8, fun o s => ?_⟩
  rw [exec_inc8Instr, exec_dec8Instr, inc8, dec8]
  simp only [incResult_eq, decResult_eq]
  exact ⟨OnModify.of_complete .., OnModify.of_complete ..⟩

/-! ## DAA -/

theorem daaLow_eq (a : Byte) (f : Flags) :
    daaLow a f = decide (f.h ∨ (f.n = false ∧ a.toNat % 16 > 9)) := by
  rw [daaLow, and_0xF_toNat]
  simp

theorem daaHigh_eq (a : Byte) (f : Flags) : daaHigh a f = decide (f.c ∨ (f.n = false ∧ a.toNat > 0x99)) := by
  simp [daaHigh]

/-- The two corrections share no bit, so their union is their sum. -/
theorem daaCorrection_toNat (a : Byte) (f : Flags) : (daaCorrection a f).toNat =
    (if f.h ∨ (f.n = false ∧ a.toNat % 16 > 9) then 0x06 else 0) +
      (if f.c ∨ (f.n = false ∧ a.toNat > 0x99) then 0x60 else 0) := by
  have hdisjoint (low high : Bool) :
      ((if low then 0x06 else 0x00 : Byte) ||| (if high then 0x60 else 0x00)).toNat =
        (if low then 0x06 else 0) + (if high then 0x60 else 0) := by
    cases low <;> cases high <;> rfl
  rw [daaCorrection, hdisjoint, daaLow_eq, daaHigh_eq]
  simp only [decide_eq_true_eq]

theorem daaResult_value (a : Byte) (f : Flags) : (daaResult a f).value =
    if f.n then BitVec.ofInt 8 ((a.toNat : Int) - (daaCorrection a f).toNat)
    else BitVec.ofNat 8 (a.toNat + (daaCorrection a f).toNat) := by
  simp only [daaResult, ofInt_sub_toNat, BitVec.ofInt_natCast, BitVec.ofNat_add, BitVec.ofNat_toNat,
    BitVec.setWidth_eq]

theorem daaResult_flags (a : Byte) (f : Flags) : (daaResult a f).flags =
    { z := decide ((daaResult a f).value.toNat = 0), n := f.n, h := false,
      c := decide (f.c ∨ (f.n = false ∧ a.toNat > 0x99)) } := by
  rw [← isZero_eq, ← daaHigh_eq]
  rfl

/-- Settles O43: the correction and the result are those of R168, read as numbers. -/
theorem decimalAdjustFollowsItsAlgorithm : Obligations.DecimalAdjustFollowsItsAlgorithm := by
  refine ⟨rfl, fun s => ⟨_, _, daaCorrection_toNat s.regs.a s.flags, daaResult_value s.regs.a s.flags, ?_⟩⟩
  rw [← daaResult_flags]
  rfl

/-! ## CPL, SCF and CCF -/

theorem xor_0xFF_eq_ofNat (a : Byte) : a ^^^ 0xFF = BitVec.ofNat 8 (255 - a.toNat) := by
  have hnot : a ^^^ 0xFF = ~~~a := BitVec.xor_allOnes
  apply BitVec.eq_of_toNat_eq
  rw [hnot, BitVec.toNat_not, BitVec.toNat_ofNat]
  omega

/-- Settles O44: the complement of a byte is its distance from 255; the flags are those of each rule. -/
theorem complementAndCarryFlagInstructions : Obligations.ComplementAndCarryFlagInstructions := by
  refine ⟨rfl, rfl, rfl, fun s => ?_⟩
  rw [← xor_0xFF_eq_ofNat]
  exact ⟨rfl, rfl, rfl⟩

end Sys2Proof.Machine
end

section
/-! SUPPORT. The 16-bit arithmetic of the register pairs and SP: `ADD HL,r16`, `INC r16` and `DEC r16`
(43_alu16.md R180 to R182). -/

namespace Sys2Proof.Machine

/-! ## ADD HL,r16 -/

/-- The words `00pp1001` (30_encoding.md R91). -/
theorem decode_addHl (p : Fin 4) :
    decode [BitVec.ofNat 8 (0x09 + 16 * p.val)] = .instr (addHlInstr (reg16Of p.val)) [] := by
  revert p
  decide

theorem exec_addHlInstr (r : Reg16) (s : State) : exec (addHlInstr r) s = addHl r s := by
  cases r <;> rfl

/-- The mask of the low twelve bits takes the remainder by 4096. -/
theorem and_0xFFF_toNat (x : Word) : (x &&& 0xFFF).toNat = x.toNat % 4096 :=
  Nat.and_two_pow_sub_one_eq_mod x.toNat 12

theorem halfCarryAdd16_eq (x y : Word) :
    halfCarryAdd16 x y = decide (x.toNat % 4096 + y.toNat % 4096 > 4095) := by
  rw [halfCarryAdd16, and_0xFFF_toNat, and_0xFFF_toNat]

theorem addHlFlags_eq (x y : Word) (f : Flags) : addHlFlags x y f =
    { z := f.z, n := false, h := decide (x.toNat % 4096 + y.toNat % 4096 > 4095),
      c := decide (x.toNat + y.toNat > 65535) } := by
  rw [addHlFlags, halfCarryAdd16_eq, carryAdd16]

/-- Addition modulo 65536 is exact addition, narrowed. -/
theorem word_add_eq_ofNat (x y : Word) : x + y = BitVec.ofNat 16 (x.toNat + y.toNat) := by
  rw [BitVec.ofNat_add, BitVec.ofNat_toNat, BitVec.ofNat_toNat, BitVec.setWidth_eq, BitVec.setWidth_eq]

/-- Settles O45: the wrapped sum is the exact one narrowed, with the carries out of bits 11 and 15. -/
theorem addToHl : Obligations.AddToHl := by
  refine ⟨decode_addHl, fun r s => ?_⟩
  rw [exec_addHlInstr, addHl, addHlFlags_eq, word_add_eq_ofNat]
  rfl

/-! ## INC r16 and DEC r16 -/

/-- The words `00pp0011` and `00pp1011` (30_encoding.md R91). -/
theorem decode_inc16_dec16 (p : Fin 4) :
    decode [BitVec.ofNat 8 (0x03 + 16 * p.val)] = .instr (inc16Instr (reg16Of p.val)) [] ∧
      decode [BitVec.ofNat 8 (0x0B + 16 * p.val)] = .instr (dec16Instr (reg16Of p.val)) [] := by
  revert p
  decide

theorem exec_inc16Instr (r : Reg16) (s : State) : exec (inc16Instr r) s = inc16 r s := by
  cases r <;> rfl

theorem exec_dec16Instr (r : Reg16) (s : State) : exec (dec16Instr r) s = dec16 r s := by
  cases r <;> rfl

/-- DEC adds 65535, which is -1 modulo 65536. -/
theorem word_sub_one_eq_ofNat (x : Word) : x - 1 = BitVec.ofNat 16 (x.toNat + 65535) := by
  bv_omega

/-- Settles O46: the register changed by one modulo 65536; of the rest only PC is written. -/
theorem incrementAndDecrementPair : Obligations.IncrementAndDecrementPair := by
  refine ⟨decode_inc16_dec16, fun r s => ?_⟩
  rw [exec_inc16Instr, exec_dec16Instr, inc16, dec16, word_add_eq_ofNat, word_sub_one_eq_ofNat]
  exact ⟨rfl, rfl⟩

end Sys2Proof.Machine
end

section
/-! SUPPORT. The rotates, shifts and bit operations (44_rotate_shift_bit.md R190 to R215): each union of bits that
do not overlap is read as a sum. -/

namespace Sys2Proof.Machine

/-! ## The extended table -/

/-- The words `00yyyzzz` after 0xCB (30_encoding.md R89, R92). -/
theorem decode_rot (y z : Fin 8) : decode [0xCB, BitVec.ofNat 8 (8 * y.val + z.val)] =
    .instr (rotInstr (rotOpOf y.val) (opd8Of z.val)) [] := by
  revert y z
  decide

/-- The words `01bbbzzz` after 0xCB (R92). -/
theorem decode_bit (b z : Fin 8) : decode [0xCB, BitVec.ofNat 8 (0x40 + 8 * b.val + z.val)] =
    .instr (bitInstr b (opd8Of z.val)) [] := by
  revert b z
  decide

/-- The words `10bbbzzz` and `11bbbzzz` after 0xCB (R92). -/
theorem decode_res_set (b z : Fin 8) :
    decode [0xCB, BitVec.ofNat 8 (0x80 + 8 * b.val + z.val)] = .instr (resInstr b (opd8Of z.val)) [] ∧
      decode [0xCB, BitVec.ofNat 8 (0xC0 + 8 * b.val + z.val)] = .instr (setInstr b (opd8Of z.val)) [] := by
  revert b z
  decide

theorem exec_rotInstr (op : RotOp) (o : Opd8) (s : State) : exec (rotInstr op o) s = rotate op o s := by
  cases o with
  | reg r => cases op <;> cases r <;> rfl
  | atHl => cases op <;> rfl

theorem exec_bitInstr (b : Fin 8) (o : Opd8) (s : State) : exec (bitInstr b o) s = testBit b o s := by
  cases o with
  | reg r => fin_cases b <;> cases r <;> rfl
  | atHl => fin_cases b <;> rfl

theorem exec_resInstr (b : Fin 8) (o : Opd8) (s : State) : exec (resInstr b o) s = resetBit b o s := by
  cases o with
  | reg r => fin_cases b <;> cases r <;> rfl
  | atHl => fin_cases b <;> rfl

theorem exec_setInstr (b : Fin 8) (o : Opd8) (s : State) : exec (setInstr b o) s = setBit b o s := by
  cases o with
  | reg r => fin_cases b <;> cases r <;> rfl
  | atHl => fin_cases b <;> rfl

/-! ## The shifts and the bit shifted out -/

/-- Bit 7 is the quotient by 128. -/
theorem toNat_getLsbD_seven (v : Byte) : (v.getLsbD 7).toNat = v.toNat / 128 := by
  rw [toNat_getLsbD]
  omega

theorem getLsbD_seven_eq_decide (v : Byte) : v.getLsbD 7 = decide (v.toNat / 128 = 1) := by
  rw [getLsbD_eq_decide, decide_eq_decide]
  omega

/-- Bit 0 is the remainder by 2. -/
theorem toNat_getLsbD_zero (v : Byte) : (v.getLsbD 0).toNat = v.toNat % 2 := by
  rw [toNat_getLsbD, pow_zero, Nat.div_one]

theorem getLsbD_zero_eq_decide (v : Byte) : v.getLsbD 0 = decide (v.toNat % 2 = 1) := by
  rw [getLsbD_eq_decide, pow_zero, Nat.div_one]

theorem ushiftRight_one_toNat (v : Byte) : (v >>> 1).toNat = v.toNat / 2 :=
  Nat.shiftRight_eq_div_pow v.toNat 1

/-- A byte below `2 ^ i` fills the bits that a shift left by `i` leaves clear. -/
theorem shiftLeft_or_eq_ofNat {i : Nat} (a : Byte) {b : Byte} (hb : b.toNat < 2 ^ i) :
    a <<< i ||| b = BitVec.ofNat 8 (a.toNat * 2 ^ i + b.toNat) := by
  rw [← Nat.shiftLeft_eq, Nat.shiftLeft_add_eq_or_of_lt hb, BitVec.ofNat_or, BitVec.ofNat_toNat,
    BitVec.setWidth_eq]
  rfl

/-- A shift left by 1 that takes the bit `c` in at bit 0. -/
theorem shiftLeft_one_or_bitByte (v : Byte) (c : Bool) :
    v <<< 1 ||| bitByte c = BitVec.ofNat 8 (v.toNat * 2 + c.toNat) := by
  have hc : (bitByte c).toNat < 2 ^ 1 := by
    rw [toNat_bitByte]
    exact c.toNat_lt
  rw [shiftLeft_or_eq_ofNat v hc, toNat_bitByte, pow_one]

/-- A shift right by 1 that takes the bit `c` in at bit 7. -/
theorem ushiftRight_one_or_bitByte (v : Byte) (c : Bool) :
    v >>> 1 ||| bitByte c <<< 7 = BitVec.ofNat 8 (v.toNat / 2 + c.toNat * 128) := by
  have hv : (v >>> 1).toNat < 2 ^ 7 := by
    rw [ushiftRight_one_toNat]
    omega
  rw [BitVec.or_comm, shiftLeft_or_eq_ofNat _ hv, toNat_bitByte, ushiftRight_one_toNat, Nat.add_comm]
  rfl

/-- The sign bit that SRA keeps, as a bit taken in at bit 7. -/
theorem and_0x80_eq_bitByte (v : Byte) : v &&& (0x80 : Byte) = bitByte (v.getLsbD 7) <<< 7 := by
  have hbit : v &&& 0x80 = if v.getLsbD 7 then 0x80 else 0 := BitVec.and_twoPow v 7
  rw [hbit]
  cases v.getLsbD 7 <;> rfl

/-! ## The eight rotates and shifts as numbers -/

theorem rotateBits_rlc (v : Byte) (c : Bool) : rotateBits .rlc v c =
    (BitVec.ofNat 8 (v.toNat * 2 + v.toNat / 128), decide (v.toNat / 128 = 1)) := by
  rw [rotateBits, shiftLeft_one_or_bitByte, toNat_getLsbD_seven, getLsbD_seven_eq_decide]

theorem rotateBits_rl (v : Byte) (c : Bool) : rotateBits .rl v c =
    (BitVec.ofNat 8 (v.toNat * 2 + c.toNat), decide (v.toNat / 128 = 1)) := by
  rw [rotateBits, shiftLeft_one_or_bitByte, getLsbD_seven_eq_decide]

theorem rotateBits_sla (v : Byte) (c : Bool) : rotateBits .sla v c =
    (BitVec.ofNat 8 (v.toNat * 2), decide (v.toNat / 128 = 1)) := by
  have hshift : v <<< 1 = BitVec.ofNat 8 (v.toNat * 2) := congrArg (BitVec.ofNat 8) (Nat.shiftLeft_eq v.toNat 1)
  rw [rotateBits, hshift, getLsbD_seven_eq_decide]

theorem rotateBits_swap (v : Byte) (c : Bool) : rotateBits .swap v c =
    (BitVec.ofNat 8 (v.toNat % 16 * 16 + v.toNat / 16), false) := by
  have hhigh : (v >>> 4).toNat = v.toNat / 16 := Nat.shiftRight_eq_div_pow v.toNat 4
  have hlt : (v >>> 4).toNat < 2 ^ 4 := by
    rw [hhigh]
    omega
  rw [rotateBits, shiftLeft_or_eq_ofNat v hlt, hhigh]
  congr 1
  apply BitVec.eq_of_toNat_eq
  rw [BitVec.toNat_ofNat, BitVec.toNat_ofNat]
  omega

theorem rotateBits_rrc (v : Byte) (c : Bool) : rotateBits .rrc v c =
    (BitVec.ofNat 8 (v.toNat / 2 + v.toNat % 2 * 128), decide (v.toNat % 2 = 1)) := by
  rw [rotateBits, ushiftRight_one_or_bitByte, toNat_getLsbD_zero, getLsbD_zero_eq_decide]

theorem rotateBits_rr (v : Byte) (c : Bool) : rotateBits .rr v c =
    (BitVec.ofNat 8 (v.toNat / 2 + c.toNat * 128), decide (v.toNat % 2 = 1)) := by
  rw [rotateBits, ushiftRight_one_or_bitByte, getLsbD_zero_eq_decide]

theorem rotateBits_sra (v : Byte) (c : Bool) : rotateBits .sra v c =
    (BitVec.ofNat 8 (v.toNat / 2 + v.toNat / 128 * 128), decide (v.toNat % 2 = 1)) := by
  rw [rotateBits, and_0x80_eq_bitByte, ushiftRight_one_or_bitByte, toNat_getLsbD_seven, getLsbD_zero_eq_decide]

theorem rotateBits_srl (v : Byte) (c : Bool) : rotateBits .srl v c =
    (BitVec.ofNat 8 (v.toNat / 2), decide (v.toNat % 2 = 1)) := by
  rw [rotateBits, getLsbD_zero_eq_decide, ← ushiftRight_one_toNat, BitVec.ofNat_toNat, BitVec.setWidth_eq]

/-! ## The instructions built on them -/

theorem rotateA_eq {op : RotOp} {s : State} {r : Byte} {c : Bool}
    (h : rotateBits op s.regs.a s.flags.c = (r, c)) : rotateA op s = .next (rotatedA s r c) := by
  rw [rotateA, rotateAResult, h]
  rfl

/-- One read and one write of the operand, the flags `Z 0 0 C` from the byte written and the bit shifted out. -/
theorem rotInstr_onModify {op : RotOp} {s : State} {f : Byte → Byte} {c : Byte → Bool} (o : Opd8)
    (h : ∀ v, rotateBits op v s.flags.c = (f v, c v)) :
    OnModify s o f (exec (rotInstr op o) s)
      fun v t => { t with flags := rotateFlags (f v) (c v), pc := s.pc + 2 } := by
  rw [exec_rotInstr, rotate]
  simp only [rotateResult, h, isZero_eq]
  exact OnModify.of_complete ..

/-- Settles O47: the results and carries of the rotates, with Z cleared. -/
theorem accumulatorRotates : Obligations.AccumulatorRotates :=
  ⟨rfl, rfl, rfl, rfl, fun _ => ⟨rotateA_eq (rotateBits_rlc _ _), rotateA_eq (rotateBits_rrc _ _),
    rotateA_eq (rotateBits_rl _ _), rotateA_eq (rotateBits_rr _ _)⟩⟩

/-- Settles O48: bit 7 goes to the carry; SWAP clears it. -/
theorem leftRotatesShiftsAndSwap : Obligations.LeftRotatesShiftsAndSwap :=
  ⟨fun z => ⟨decode_rot 0 z, decode_rot 2 z, decode_rot 4 z, decode_rot 6 z⟩, fun o _ =>
    ⟨rotInstr_onModify o fun v => rotateBits_rlc v _, rotInstr_onModify o fun v => rotateBits_rl v _,
      rotInstr_onModify o fun v => rotateBits_sla v _, rotInstr_onModify o fun v => rotateBits_swap v _⟩⟩

/-- Settles O49: bit 0 goes to the carry. -/
theorem rightRotatesAndShifts : Obligations.RightRotatesAndShifts :=
  ⟨fun z => ⟨decode_rot 1 z, decode_rot 3 z, decode_rot 5 z, decode_rot 7 z⟩, fun o _ =>
    ⟨rotInstr_onModify o fun v => rotateBits_rrc v _, rotInstr_onModify o fun v => rotateBits_rr v _,
      rotInstr_onModify o fun v => rotateBits_sra v _, rotInstr_onModify o fun v => rotateBits_srl v _⟩⟩

/-! ## BIT -/

theorem bitFlags_eq (b : Fin 8) (v : Byte) (f : Flags) : bitFlags b v f =
    { z := decide (v.toNat / 2 ^ b.val % 2 = 0), n := false, h := true, c := f.c } := by
  rw [bitFlags, getLsbD_eq_decide, ← decide_not, decide_eq_decide.2 Nat.mod_two_ne_one]

/-- Settles O50: Z is the complement of the tested bit; the operand is only read. -/
theorem bitTest : Obligations.BitTest := by
  refine ⟨decode_bit, fun b o s => ?_⟩
  rw [exec_bitInstr, testBit]
  simp only [bitFlags_eq]
  exact OnOperand.of_complete ..

/-! ## RES and SET -/

theorem toNat_bitMask (b : Fin 8) : (bitMask b).toNat = 2 ^ b.val :=
  BitVec.toNat_twoPow_of_lt b.isLt

/-- What a mask of one bit leaves of a byte. -/
theorem and_bitMask (b : Fin 8) (v : Byte) :
    v &&& bitMask b = if v.toNat / 2 ^ b.val % 2 = 1 then bitMask b else 0 := by
  have hbit : v &&& bitMask b = if v.getLsbD b.val then bitMask b else 0 := BitVec.and_twoPow v b.val
  simp only [hbit, getLsbD_eq_decide, decide_eq_true_eq]

/-- A byte is what a mask clears of it plus what the mask keeps. -/
theorem and_not_eq_sub (v m : Byte) : v &&& (0xFF ^^^ m) = v - (v &&& m) := by
  have hnot : 0xFF ^^^ m = ~~~m := BitVec.allOnes_xor
  have hdisjoint : (v &&& ~~~m) &&& (v &&& m) = 0#8 := by
    ext i
    simp only [BitVec.getElem_and, BitVec.getElem_not, BitVec.getElem_zero]
    cases m[i] <;> simp
  have hsplit : (v &&& ~~~m) ||| (v &&& m) = v := by
    ext i
    simp only [BitVec.getElem_or, BitVec.getElem_and, BitVec.getElem_not]
    cases m[i] <;> simp
  rw [hnot, BitVec.eq_sub_iff_add_eq, BitVec.add_eq_or_of_and_eq_zero _ _ hdisjoint, hsplit]

theorem and_not_bitMask (b : Fin 8) (v : Byte) : v &&& (0xFF ^^^ bitMask b) =
    if v.toNat / 2 ^ b.val % 2 = 1 then BitVec.ofNat 8 (v.toNat - 2 ^ b.val) else v := by
  rw [and_not_eq_sub, and_bitMask]
  split
  case isTrue hset =>
    have hle : bitMask b ≤ v := by
      rw [BitVec.le_def, toNat_bitMask]
      exact Nat.ge_two_pow_of_testBit (Nat.testBit_eq_decide_div_mod_eq.trans (decide_eq_true hset))
    rw [← toNat_bitMask, ← BitVec.toNat_sub_of_le hle, BitVec.ofNat_toNat, BitVec.setWidth_eq]
  case isFalse => exact BitVec.sub_zero v

theorem or_bitMask (b : Fin 8) (v : Byte) : v ||| bitMask b =
    if v.toNat / 2 ^ b.val % 2 = 1 then v else BitVec.ofNat 8 (v.toNat + 2 ^ b.val) := by
  have hkept := and_bitMask b v
  split
  case isTrue hset =>
    rw [if_pos hset] at hkept
    have habsorb : v ||| (v &&& bitMask b) = v := by
      ext i
      simp only [BitVec.getElem_or, BitVec.getElem_and]
      cases v[i] <;> rfl
    rwa [hkept] at habsorb
  case isFalse hclear =>
    rw [if_neg hclear] at hkept
    rw [← BitVec.add_eq_or_of_and_eq_zero _ _ hkept, ← toNat_bitMask, BitVec.ofNat_add, BitVec.ofNat_toNat,
      BitVec.ofNat_toNat, BitVec.setWidth_eq, BitVec.setWidth_eq]

/-- Settles O51: the byte is written back whether or not the bit changes; of the rest only PC is written. -/
theorem bitResetAndSet : Obligations.BitResetAndSet := by
  refine ⟨decode_res_set, fun b o s => ?_⟩
  rw [exec_resInstr, exec_setInstr, resetBit, setBit]
  simp only [and_not_bitMask, or_bitMask]
  exact ⟨OnModify.of_complete .., OnModify.of_complete ..⟩

end Sys2Proof.Machine
end

section
/-! SUPPORT. The control transfers (45_control.md R220 to R231): the conditions, the jumps, and the calls and
returns as one push or one pop. -/

namespace Sys2Proof.Machine

/-! ## The conditions -/

/-- Settles O52: the field selects a condition, and each condition is a flag or its complement. -/
theorem conditionsTestOneFlag : Obligations.ConditionsTestOneFlag :=
  ⟨rfl, fun _ => ⟨Bool.decide_eq_false.symm, Bool.decide_eq_true.symm, Bool.decide_eq_false.symm,
    Bool.decide_eq_true.symm⟩⟩

/-! ## Jumps -/

/-- The rows `110cc010` (30_encoding.md R91). -/
theorem primaryEntry_jp (i : Fin 4) :
    primaryEntry (BitVec.ofNat 8 (0xC2 + 8 * i.val)) = .opD16 (jpInstr (condOf i.val)) := by
  fin_cases i <;> rfl

/-- The rows `001cc000` (R91). -/
theorem primaryEntry_jr (i : Fin 4) :
    primaryEntry (BitVec.ofNat 8 (0x20 + 8 * i.val)) = .opD8 (jrInstr (condOf i.val)) := by
  fin_cases i <;> rfl

theorem exec_jpInstr (cc : Cond) (nn : Word) (s : State) : exec (jpInstr cc nn) s = jumpIf cc nn s := by
  cases cc <;> rfl

theorem exec_jrInstr (cc : Cond) (n : Byte) (s : State) : exec (jrInstr cc n) s = jumpRelIf cc n s := by
  cases cc <;> rfl

theorem jumpIf_eq (cc : Cond) (nn : Word) (s : State) :
    jumpIf cc nn s = .next { s with pc := if condHolds s.flags cc then nn else s.pc + 3 } := by
  rw [jumpIf]
  split <;> rfl

theorem jumpRelIf_eq (cc : Cond) (n : Byte) (s : State) : jumpRelIf cc n s =
    .next { s with pc := if condHolds s.flags cc then s.pc + 2 + sext16 n else s.pc + 2 } := by
  rw [jumpRelIf]
  split <;> rfl

/-- Addition modulo 65536 may be done in the integers and narrowed at the end. -/
theorem relativeTarget_eq_ofInt (pc : Word) (n : Byte) :
    pc + 2 + sext16 n = BitVec.ofInt 16 ((pc.toNat : Int) + 2 + signedByte n) := by
  rw [BitVec.ofInt_add, BitVec.ofInt_add, BitVec.ofInt_natCast, BitVec.ofNat_toNat, BitVec.setWidth_eq,
    ← toInt_eq_signedByte]
  rfl

/-- Settles O53: of the state only PC is written, whether or not the condition holds. -/
theorem jumpsSetPc : Obligations.JumpsSetPc := by
  refine ⟨fun lo hi => ⟨rfl, fun i => ?_⟩, fun n => ⟨rfl, fun i => ?_⟩, rfl, fun s =>
    ⟨fun nn => rfl, fun cc nn => ?_, rfl, fun n => ?_, fun cc n => ?_⟩⟩
  · simp only [decode, primaryEntry_jp]
  · simp only [decode, primaryEntry_jr]
  · rw [exec_jpInstr, jumpIf_eq]
  · rw [← relativeTarget_eq_ofInt]
    rfl
  · rw [exec_jrInstr, jumpRelIf_eq, relativeTarget_eq_ofInt]

/-! ## Calls and restarts -/

/-- The rows `110cc100` (R91). -/
theorem primaryEntry_call (i : Fin 4) :
    primaryEntry (BitVec.ofNat 8 (0xC4 + 8 * i.val)) = .opD16 (callInstr (condOf i.val)) := by
  fin_cases i <;> rfl

/-- The words `11yyy111` (R91). -/
theorem decode_rst (y : Fin 8) : decode [BitVec.ofNat 8 (0xC7 + 8 * y.val)] = .instr (rstInstr y) [] := by
  revert y
  decide

theorem exec_callInstr (cc : Cond) (nn : Word) (s : State) : exec (callInstr cc nn) s = callIf cc nn s := by
  cases cc <;> rfl

/-- The slot of `RST 38H` is the absent opcode 0xFF's, so a restart has y from 0 to 6 (R230). -/
theorem exec_rstInstr {y : Fin 8} (hy : y ≠ 7) (s : State) :
    exec (rstInstr y) s = restart (BitVec.ofNat 16 (8 * y.val)) s := by
  match y, hy with
  | 0, _ | 1, _ | 2, _ | 3, _ | 4, _ | 5, _ | 6, _ => rfl
  | 7, hy => exact absurd rfl hy

theorem callIf_of_holds {cc : Cond} {s : State} (h : condHolds s.flags cc = true) (nn : Word) :
    callIf cc nn s = call nn s := by
  rw [callIf, if_pos h, call]

theorem callIf_of_not_holds {cc : Cond} {s : State} (h : condHolds s.flags cc = false) (nn : Word) :
    callIf cc nn s = .next { s with pc := s.pc + 3 } := by
  rw [callIf, h]
  rfl

theorem call_onPush (nn : Word) (s : State) : OnPush s (s.pc + 3) (call nn s) fun t => { t with pc := nn } :=
  OnPush.of_complete ..

theorem restart_onPush (target : Word) (s : State) :
    OnPush s (s.pc + 1) (restart target s) fun t => { t with pc := target } :=
  OnPush.of_complete ..

/-- Settles O54: one push of the return address, or none when the condition is false. -/
theorem callsPushTheReturnAddress : Obligations.CallsPushTheReturnAddress := by
  refine ⟨fun lo hi => ⟨rfl, fun i => ?_⟩, decode_rst, fun s =>
    ⟨fun nn => call_onPush nn s, fun cc nn h => ?_, fun cc nn h => ?_, fun y hy => ?_, rfl⟩⟩
  · simp only [decode, primaryEntry_call]
  · rw [exec_callInstr, callIf_of_holds h]
    exact call_onPush nn s
  · rw [exec_callInstr, callIf_of_not_holds h]
  · rw [exec_rstInstr hy]
    exact restart_onPush _ s

/-! ## Returns -/

/-- The words `110cc000` (R91). -/
theorem decode_ret (i : Fin 4) :
    decode [BitVec.ofNat 8 (0xC0 + 8 * i.val)] = .instr (retInstr (condOf i.val)) [] := by
  revert i
  decide

theorem exec_retInstr (cc : Cond) (s : State) : exec (retInstr cc) s = retIf cc s := by
  cases cc <;> rfl

theorem retIf_of_holds {cc : Cond} {s : State} (h : condHolds s.flags cc = true) : retIf cc s = ret s := by
  rw [retIf, if_pos h, ret]

theorem retIf_of_not_holds {cc : Cond} {s : State} (h : condHolds s.flags cc = false) :
    retIf cc s = .next { s with pc := s.pc + 1 } := by
  rw [retIf, h]
  rfl

theorem ret_onPop (s : State) : OnPop s (ret s) fun v => { s with sp := s.sp + 2, pc := v } :=
  OnPop.of_complete ..

/-- The latch is set only when the pop was done (R229). -/
theorem retEnable_onPop (s : State) :
    OnPop s (retEnable s) fun v => { s with sp := s.sp + 2, pc := v, ime := true } :=
  OnPop.of_complete ..

/-- Settles O55: one pop, or none when the condition is false. -/
theorem returnsPopPc : Obligations.ReturnsPopPc := by
  refine ⟨rfl, rfl, decode_ret, fun s => ⟨ret_onPop s, retEnable_onPop s, fun cc h => ?_, fun cc h => ?_⟩⟩
  · rw [exec_retInstr, retIf_of_holds h]
    exact ret_onPop s
  · rw [exec_retInstr, retIf_of_not_holds h]

end Sys2Proof.Machine
end

section
/-! SUPPORT. The system instructions (46_system.md R240 to R246): the absent opcodes and the escape to the extended
table. -/

namespace Sys2Proof.Machine

/-- Settles O57: each of the three is one write of the latch, or none, and the advance of PC. -/
theorem nopAndLatchInstructions : Obligations.NopAndLatchInstructions :=
  ⟨rfl, rfl, rfl, fun _ => ⟨rfl, rfl, rfl⟩⟩

/-! ## The absent opcodes -/

/-- Under the defaults the policy makes 0x10 and 0x76 absent, which the list has too (R243, R244). -/
theorem primaryAbsent_defaultConfig (op : Byte) :
    primaryAbsent defaultConfig op = true ↔ op ∈ defaultAbsentPrimary := by
  rw [primaryAbsent]
  split
  case isTrue h => rcases h with rfl | rfl <;> decide
  case isFalse => exact List.contains_iff_mem

/-- Settles O59: the twelve rows one by one; a step faults in its fetch, before any operand is read. -/
theorem absentOpcodesTakeDecodeError : Obligations.AbsentOpcodesTakeDecodeError := by
  refine ⟨primaryAbsent_defaultConfig, fun _ => rfl, fun row hrow => ?_, fun s op hr hread ha =>
    step_of_fetch_error hr (fetch_absent hread ha)⟩
  fin_cases hrow <;> exact ⟨by decide, rfl, fun _ => rfl⟩

/-! ## The escape (R245) -/

/-- The effect the escape selects by the fields of the second byte is that of the table's instruction. -/
theorem exec_extendedEntry (op2 : Byte) (s : State) : exec (extendedEntry op2) s = extendedEffect op2 s := by
  rw [extendedEntry, extendedEffect]
  split
  · exact exec_rotInstr ..
  · exact exec_bitInstr ..
  · exact exec_resInstr ..
  · exact exec_setInstr ..

theorem exec_prefixCb (op2 : Byte) (s : State) : exec (.prefixCb op2) s = escape op2 s := rfl

theorem exec_prefixCb_of_present {op2 : Byte} {s : State} (h : extendedAbsent s.cfg op2 = false) :
    exec (.prefixCb op2) s = exec (extendedEntry op2) s := by
  rw [exec_prefixCb, exec_extendedEntry, escape, if_neg (Bool.eq_false_iff.1 h)]

theorem exec_prefixCb_of_absent {op2 : Byte} {s : State} (h : extendedAbsent s.cfg op2 = true) :
    exec (.prefixCb op2) s = .next (faultedAt s (.decodeError op2)) := by
  rw [exec_prefixCb, escape, if_pos h]
  rfl

/-- The fetch finds the second byte present, and then the step is its entry's; or absent, and then it is the fault
that the escape itself takes. -/
theorem step_eq_exec_prefixCb {s : State} {op2 : Byte} (hr : s.run = .running)
    (hread : busRead s s.pc = .ok 0xCB) (hop : primaryAbsent s.cfg 0xCB = false)
    (hn : busRead s (s.pc + 1) = .ok op2) : step s = exec (.prefixCb op2) s := by
  cases ha : extendedAbsent s.cfg op2 with
  | true => rw [exec_prefixCb_of_absent ha, step_of_fetch_error hr (fetch_second_absent hread hop hn ha)]
  | false =>
    have hf : fetch s = .ok (extendedEntry op2) := fetch_eq_ok (nn := 0) ⟨hread, hn, trivial⟩ hop fun _ => ha
    rw [exec_prefixCb_of_present ha, step_of_fetch_ok hr hf]

/-- Only the index 6 is the byte at HL (30_encoding.md R86). -/
theorem exists_reg_of_opd8Of {i : Nat} (hi : i ≠ 6) : ∃ r, opd8Of i = .reg r := by
  match i, hi with
  | 0, _ | 1, _ | 2, _ | 3, _ | 4, _ | 5, _ | _ + 7, _ => exact ⟨_, rfl⟩
  | 6, hi => exact absurd rfl hi

/-- On a register operand an extended-table instruction completes, writing only registers, flags and PC. -/
theorem extendedEffect_of_reg {op2 : Byte} (h : fieldZ op2 ≠ 6) (s : State) : ∃ regs flags,
    extendedEffect op2 s = .next { s with regs := regs, flags := flags, pc := s.pc + 2 } := by
  obtain ⟨r, hr⟩ := exists_reg_of_opd8Of h
  rw [extendedEffect, hr]
  split <;> exact ⟨_, _, rfl⟩

/-- Settles O60: the escape, absent or present, is the fault or the entry of its second byte. -/
theorem escapeSelectsTheExtendedEntry : Obligations.EscapeSelectsTheExtendedEntry := by
  refine fun s op2 => ⟨exec_prefixCb_of_present, exec_prefixCb_of_absent, step_eq_exec_prefixCb,
    fun hpresent hz => ?_⟩
  obtain ⟨regs, flags, heffect⟩ := extendedEffect_of_reg hz s
  rw [exec_prefixCb_of_present hpresent, exec_extendedEntry, heffect]
  exact ⟨_, rfl, rfl, rfl, rfl, rfl, rfl, rfl⟩

end Sys2Proof.Machine
end

section
/-! SUPPORT. The host's moves by case, and the CORE that has ended (60_exceptions.md R306, R321;
70_reset_and_hazards.md R351, R352). -/

namespace Sys2Proof.Machine

/-! ## The moves while the run goes on -/

theorem isHostIo_iff (a : Word) : isHostIo a = true ↔ 0xFF00 ≤ a.toNat ∧ a.toNat ≤ 0xFF7F := by
  simp only [isHostIo, Bool.and_eq_true, decide_eq_true_eq]

theorem hostMove_ioWrite_granted {s : State} {a : Word} (hr : s.run = .running) (ha : isHostIo a = true)
    (v : Byte) : hostMove (.ioWrite a v) s = .next (s.setMem (s.mem.write a.toNat v)) := by
  simp only [hostMove, hr, ha, if_true]

theorem hostMove_ioWrite_refused {s : State} {a : Word} (hr : s.run = .running) (ha : ¬ isHostIo a = true)
    (v : Byte) : hostMove (.ioWrite a v) s = .refused .hostMoveNotGranted := by
  simp only [hostMove, hr, if_neg ha]

theorem hostMove_stop {s : State} (hr : s.run = .running) : hostMove .stop s = .next (s.setRun .stopped) := by
  simp only [hostMove, hr]

/-- Settles O16: a granted write is the bus write to that cell of storage, so what the bus reads afterwards is
the law of a bus write. -/
theorem hostMovesAreTheGrantedOnes : Obligations.HostMovesAreTheGrantedOnes := by
  refine fun s hr => ⟨fun a v hlo hhi => ?_, fun a v hout => ?_, hostMove_stop hr⟩
  · have hio : isHostIo a = true := (isHostIo_iff a).2 ⟨hlo, hhi⟩
    have hreg := region_of_isMutable (isMutable_of_isHostIo hio)
    have hw := busWrite_storage s v hreg
    exact ⟨_, hostMove_ioWrite_granted hr hio v, rfl,
      fun hwf => busRead_busWrite_same ((State.wf_iff s).1 hwf).1 hreg hw,
      fun b hb => busRead_busWrite_other hw hb⟩
  · have hio : ¬ isHostIo a = true := by
      rw [isHostIo_iff]
      omega
    exact hostMove_ioWrite_refused hr hio v

/-! ## The CORE that has ended -/

theorem step_of_faulted {s : State} {cause : FaultCause} {pc : Word} (hr : s.run = .faulted cause pc) :
    step s = .fault (.coreFaulted cause pc) := by
  simp only [step, hr]

theorem hostMove_of_faulted {s : State} {cause : FaultCause} {pc : Word} (hr : s.run = .faulted cause pc)
    (m : HostMove) : hostMove m s = .fault (.coreFaulted cause pc) := by
  simp only [hostMove, hr]

theorem step_of_stopped {s : State} (hr : s.run = .stopped) : step s = .fault .coreStopped := by
  simp only [step, hr]

theorem hostMove_of_stopped {s : State} (hr : s.run = .stopped) (m : HostMove) :
    hostMove m s = .fault .coreStopped := by
  simp only [hostMove, hr]

/-- Settles O7: `step` and every host move look at RUN before anything else. -/
theorem endedRunTakesNoStep : Obligations.EndedRunTakesNoStep :=
  ⟨fun _ _ _ hr => ⟨step_of_faulted hr, hostMove_of_faulted hr⟩,
    fun _ hr => ⟨step_of_stopped hr, hostMove_of_stopped hr⟩⟩

end Sys2Proof.Machine
end

section
/-! SUPPORT. What a step of a running CORE can do: it completes and keeps RUN, or it takes a fault of the bus or a
DecodeError, each with the cause the taxonomy gives it (60_exceptions.md R300 to R309). -/

namespace Sys2Proof.Machine

/-! ## The cause of a fault -/

/-- `op` is an absent opcode byte at PC, or an absent second byte after 0xCB (R301, D15). -/
def DecodeFault (s : State) (op : Byte) : Prop :=
  (busRead s s.pc = .ok op ∧ (primaryAbsent s.cfg op = true ∨ op ∈ defaultAbsentPrimary)) ∨
    (busRead s s.pc = .ok 0xCB ∧ busRead s (s.pc + 1) = .ok op ∧ extendedAbsent s.cfg op = true)

/-- A fault of a step begun in `s` names what caused it: an access of the bus, or an absent byte (R300). -/
def FaultHasCause (s : State) (c : FaultCause) : Prop :=
  BusFault s c ∨ ∃ op, DecodeFault s op ∧ c = .decodeError op

theorem busFault_of_busRead_error {s : State} {a : Word} {c : FaultCause} (h : busRead s a = .error c) :
    BusFault s c :=
  .inl ⟨a, busRead_error h⟩

theorem busFault_of_readWord_error {s : State} {a : Word} {c : FaultCause} (h : readWord s a = .error c) :
    BusFault s c := by
  rcases except_bind_eq_error h with hlo | ⟨lo, -, h⟩
  · exact busFault_of_busRead_error hlo
  rcases except_bind_eq_error h with hhi | ⟨hi, -, h⟩
  · exact busFault_of_busRead_error hhi
  · cases h

theorem regionOf_rom_bounds {a : Word} (h : regionOf a = .rom) : 0x100 ≤ a.toNat ∧ a.toNat < 0x8000 := by
  simp only [regionOf] at h
  split at h
  · cases h
  split at h
  · omega
  split at h <;> cases h

/-! ## The fetch -/

/-- A fetch that completes read the opcode byte of its instruction's entry at PC (30_encoding.md R80). -/
theorem fetch_ok_cases {s : State} {i : Instr} (h : fetch s = .ok i) :
    ∃ op n nn, busRead s s.pc = .ok op ∧ i = (primaryEntry op).instr n nn := by
  obtain ⟨op, hop, h⟩ := except_bind_eq_ok h
  split at h
  · cases h
  cases he : primaryEntry op <;> simp only [he] at h
  case op i' =>
    cases h
    exact ⟨op, 0, 0, hop, by rw [he]; rfl⟩
  case opD8 mk =>
    obtain ⟨n, -, h⟩ := except_bind_eq_ok h
    cases h
    exact ⟨op, n, 0, hop, by rw [he]; rfl⟩
  case opD16 mk =>
    obtain ⟨nn, -, h⟩ := except_bind_eq_ok h
    cases h
    exact ⟨op, 0, nn, hop, by rw [he]; rfl⟩
  case cbOp =>
    obtain ⟨n, -, h⟩ := except_bind_eq_ok h
    split at h <;> cases h
    exact ⟨op, n, 0, hop, by rw [he]; rfl⟩

/-- A fetch faults by one of its reads, by an absent opcode byte, or by an absent second byte (R309). -/
theorem fetch_error_hasCause {s : State} {c : FaultCause} (h : fetch s = .error c) : FaultHasCause s c := by
  rcases except_bind_eq_error h with hread | ⟨op, hop, h⟩
  · exact .inl (busFault_of_busRead_error hread)
  split at h
  case isTrue habsent =>
    cases h
    exact .inr ⟨op, .inl ⟨hop, .inl habsent⟩, rfl⟩
  cases he : primaryEntry op <;> simp only [he] at h
  case op => cases h
  case opD8 =>
    rcases except_bind_eq_error h with hread | ⟨n, -, h⟩
    · exact .inl (busFault_of_busRead_error hread)
    · cases h
  case opD16 =>
    rcases except_bind_eq_error h with hread | ⟨nn, -, h⟩
    · exact .inl (busFault_of_readWord_error hread)
    · cases h
  case cbOp =>
    obtain rfl := eq_of_primaryEntry_eq_cbOp he
    rcases except_bind_eq_error h with hread | ⟨op2, hop2, h⟩
    · exact .inl (busFault_of_busRead_error hread)
    split at h <;> cases h
    exact .inr ⟨op2, .inr ⟨hop, hop2, ‹_›⟩, rfl⟩

/-- The absent byte that a fetched instruction names is the opcode byte it was fetched by: the bare escape is
never fetched. -/
theorem decodeFault_of_namesAbsent {s : State} {i : Instr} {op : Byte} (hf : fetch s = .ok i)
    (h : NamesAbsent i s op) : DecodeFault s op := by
  obtain ⟨op', n, nn, hread, rfl⟩ := fetch_ok_cases hf
  obtain ⟨hwf, hbytes⟩ := primaryEntry_hasBytes op' n nn
  rcases h with ⟨henc, hmem⟩ | ⟨hesc, -⟩
  · obtain rfl : op' = op := (List.cons.inj (hbytes.symm.trans henc)).1
    exact .inl ⟨hread, .inr hmem⟩
  · rw [hesc] at hwf
    cases hwf

/-! ## The step -/

theorem exec_answers_next (i : Instr) (s : State) : ∃ t, exec i s = .next t := by
  rcases exec_ends_or_names_absent i s with ⟨t, ht, -⟩ | ⟨op, -, he⟩
  · exact ⟨t, ht⟩
  · exact ⟨_, he⟩

theorem step_answers_next {s : State} (hr : s.run = .running) : ∃ t, step s = .next t := by
  cases hf : fetch s with
  | error c => exact ⟨_, step_of_fetch_error hr hf⟩
  | ok i =>
    rw [step_of_fetch_ok hr hf]
    exact exec_answers_next i s

/-- A step that answers a next state completed, and the CORE still runs; or it took a fault, which has the cause
it names, and changed RUN alone. -/
theorem step_completes_or_faults {s t : State} (h : step s = .next t) :
    t.run = .running ∨ ∃ c, FaultHasCause s c ∧ t = s.raise c := by
  obtain ⟨hr, ⟨c, hf, rfl⟩ | ⟨i, hf, he⟩⟩ := step_cases h
  · exact .inr ⟨c, fetch_error_hasCause hf, rfl⟩
  · rcases exec_cases he with ⟨hk, -, -⟩ | ⟨c, hc, rfl⟩ | ⟨op, ha, rfl⟩
    · exact .inl (hk.run.trans hr)
    · exact .inr ⟨c, .inl hc, rfl⟩
    · exact .inr ⟨_, .inr ⟨op, decodeFault_of_namesAbsent hf ha, rfl⟩, rfl⟩

/-- Settles O8: every execution answers a next state, and a step's fault changes RUN alone. -/
theorem runningStepCompletesOrFaultsPrecisely : Obligations.RunningStepCompletesOrFaultsPrecisely := by
  intro s hr
  obtain ⟨t, ht⟩ := step_answers_next hr
  exact ⟨t, ht, (step_completes_or_faults ht).imp_right fun ⟨c, _, hraise⟩ => ⟨c, hraise⟩⟩

/-- Settles O9: the fault is the one the step took, of the bus in ROM or of an absent byte. -/
theorem everyFaultHasTheCauseItNames : Obligations.EveryFaultHasTheCauseItNames := by
  intro s t cause pc _ hstep hfault
  rcases step_completes_or_faults hstep with hrun | ⟨c, hc, rfl⟩
  · cases hrun.symm.trans hfault
  obtain rfl : c = cause := (RunState.faulted.inj hfault).1
  rcases hc with (⟨a, hrom, hbeyond, rfl⟩ | ⟨a, hrom, hpolicy, rfl⟩) | ⟨op, hop, rfl⟩
  · obtain ⟨hlo, hhi⟩ := regionOf_rom_bounds hrom
    exact ⟨hlo, hhi, hbeyond⟩
  · obtain ⟨hlo, hhi⟩ := regionOf_rom_bounds hrom
    exact ⟨hlo, hhi, hpolicy⟩
  · exact hop

end Sys2Proof.Machine
end

section
/-! SUPPORT. The reset state under its parameters and under the defaults (70_reset_and_hazards.md R340 to R346), and
the carry-in and 16-bit predicates of the flag unit (10_state.md R32). -/

namespace Sys2Proof.Machine

/-! ## Reset -/

/-- Settles O17: the fields are the parameters, and the flags are RESET_F unpacked. -/
theorem resetTakesItsParameters : Obligations.ResetTakesItsParameters := fun _ => rfl

/-- With no image the first fetch is a read beyond it (20_memory.md R53). -/
theorem fetch_reset : fetch State.reset = .error (.configError 0x0100) :=
  fetch_no_opcode (busRead_beyond_image (by decide) (Nat.zero_le _))

/-- Settles O18: the default parameters, storage that lists no byte, and the fault of the first fetch. -/
theorem defaultResetAndItsFirstStep : Obligations.DefaultResetAndItsFirstStep :=
  ⟨by decide, rfl, fun _ _ => rfl, step_of_fetch_error rfl fetch_reset⟩

/-! ## The predicates with a carry in, and of words -/

/-- Settles O23: each predicate is the comparison it says, the masked operands being remainders; a carry of 0 adds
nothing. -/
theorem carryInPredicatesExtendTheTwoOperandOnes : Obligations.CarryInPredicatesExtendTheTwoOperandOnes :=
  ⟨fun a b c => ⟨halfCarryAdd3_eq a b c, rfl, halfCarrySub3_eq a b c, rfl⟩,
    fun x y => ⟨halfCarryAdd16_eq x y, rfl⟩, fun _ _ => ⟨rfl, rfl, rfl, rfl⟩⟩

end Sys2Proof.Machine
end

section
/-! SUPPORT. A word written and read back (20_memory.md R73), and a call and the return from it
(70_reset_and_hazards.md R353 b). -/

namespace Sys2Proof.Machine

/-! ## The word round trip -/

theorem latchByte_ne_two (b : Bool) : latchByte b ≠ 2 := by
  revert b
  decide

/-- Where writes to ROM fault and the byte 2 reads back, there is a cell: the latch answers only 0 or 1. -/
theorem isMutable_of_reads_back {s t u : State} {a : Word} (hp : s.cfg.romWrite = .addressError)
    (hw : busWrite s a 2 = .ok u) (hr : busRead t a = .ok 2) : isMutable a.toNat = true := by
  cases hreg : regionOf a with
  | lowRam => exact isMutable_of_region (.inl hreg)
  | highRam => exact isMutable_of_region (.inr hreg)
  | rom =>
    rw [busWrite_rom_addressError 2 hreg hp] at hw
    cases hw
  | latch =>
    rw [busRead_latch t hreg] at hr
    exact absurd (Except.ok.inj hr) (latchByte_ne_two t.ime)

/-- A word whose two bytes are both 2 reads back only where both have a cell. -/
theorem isMutable_of_word_reads_back {s t : State} {a : Word} (hp : s.cfg.romWrite = .addressError)
    (hw : writeWord s a (wordOf 2 2) = .ok t) (hr : readWord t a = .ok (wordOf 2 2)) :
    isMutable a.toNat = true ∧ isMutable (a + 1).toNat = true := by
  obtain ⟨u, hwlo, hwhi⟩ := writeWord_cases hw
  obtain ⟨lo, hi, hrlo, hrhi, hword⟩ := readWord_cases hr
  obtain rfl : 2 = lo := by simpa using congrArg loByte hword
  obtain rfl : 2 = hi := by simpa using congrArg hiByte hword
  rw [loByte_wordOf] at hwlo
  rw [hiByte_wordOf] at hwhi
  have hpu : u.cfg.romWrite = .addressError := (busWrite_keeps hwlo).cfg ▸ hp
  exact ⟨isMutable_of_reads_back hp hwlo hrlo, isMutable_of_reads_back hpu hwhi hrhi⟩

/-- The addresses at which both bytes of a word have a cell (10_state.md R36). -/
theorem isMutable_pair_iff (a : Word) : (isMutable a.toNat = true ∧ isMutable (a + 1).toNat = true) ↔
    (a.toNat ≤ 0x00FE ∨ (0x8000 ≤ a.toNat ∧ a.toNat ≤ 0xFFFD)) := by
  have hsucc : (a + 1).toNat = (a.toNat + 1) % 65536 := BitVec.toNat_add a 1
  have hlt : a.toNat < 65536 := a.isLt
  simp only [isMutable, Bool.or_eq_true, Bool.and_eq_true, decide_eq_true_eq, hsucc]
  omega

/-- Settles O28: two cells hold any word, and the word 0x0202 reads back only from two cells. -/
theorem wordRoundTripHoldsExactlyInStorage : Obligations.WordRoundTripHoldsExactlyInStorage := by
  intro s a hwf hp
  rw [← isMutable_pair_iff]
  constructor
  · intro h
    obtain ⟨t, hw, hr⟩ := h (wordOf 2 2)
    exact isMutable_of_word_reads_back hp hw hr
  · intro ⟨hlo, hhi⟩ v
    obtain ⟨m, hw⟩ := writeWord_storage s v hlo hhi
    exact ⟨_, hw, readWord_writeWord_same ((State.wf_iff s).1 hwf).1 hlo hhi hw⟩

/-! ## Call then return -/

/-- A word read depends on its two bytes alone. -/
theorem readWord_congr_bytes {s t : State} {a : Word} (hlo : busRead t a = busRead s a)
    (hhi : busRead t (a + 1) = busRead s (a + 1)) : readWord t a = readWord s a := by
  rw [readWord, readWord, hlo, hhi]

/-- Settles O56: the call's word write stores the return address, which the return's word read finds. -/
theorem callThenReturnRestoresPcAndSp : Obligations.CallThenReturnRestoresPcAndSp := by
  intro s nn hwf hlo hhi
  obtain ⟨m, hm⟩ := writeWord_storage s (s.pc + 3) hlo hhi
  have hread : readWord (s.setMem m) (s.sp - 2) = .ok (s.pc + 3) :=
    readWord_writeWord_same ((State.wf_iff s).1 hwf).1 hlo hhi hm
  refine ⟨_, (call_onPush nn s).1 _ hm, rfl, fun u hsp hbytes => ?_⟩
  have hsame : ∀ b ∈ pushBytes s, busRead u b = busRead (s.setMem m) b := hbytes
  have hpop : readWord u u.sp = .ok (s.pc + 3) := by
    rw [hsp, ← hread]
    exact readWord_congr_bytes (hsame _ (by simp [pushBytes])) (hsame _ (by simp [pushBytes]))
  have hback : u.sp + 2 = s.sp := by
    rw [hsp]
    exact BitVec.sub_add_cancel ..
  rw [← hback]
  exact (ret_onPop u).1 _ hpop

end Sys2Proof.Machine
end

section
/-! SUPPORT. HALT and STOP under each policy (46_system.md R243, R244). -/

namespace Sys2Proof.Machine

/-- The policy alone makes the two opcodes absent (log entry 7). -/
theorem primaryAbsent_iff_policy {cfg : Config} {op : Byte} (h : op = 0x10 ∨ op = 0x76) :
    primaryAbsent cfg op = true ↔ cfg.haltStop = .decodeError := by
  rw [primaryAbsent, if_pos h, decide_eq_true_iff]

theorem halt_of_decodeError {s : State} (h : s.cfg.haltStop = .decodeError) :
    halt s = .next (faultedAt s (.decodeError 0x76)) := by
  rw [halt, h]
  rfl

theorem stop_of_decodeError {s : State} (h : s.cfg.haltStop = .decodeError) :
    stop s = .next (faultedAt s (.decodeError 0x10)) := by
  rw [stop, h]
  rfl

theorem halt_of_nop {s : State} (h : s.cfg.haltStop = .nop) : halt s = .next { s with pc := s.pc + 1 } := by
  rw [halt, h]
  rfl

/-- STOP under `nop` is an instruction with one bus read, whose byte it ignores. -/
theorem stop_onRead {s : State} (h : s.cfg.haltStop = .nop) :
    OnRead s (s.pc + 1) (stop s) fun _ => { s with pc := s.pc + 2 } := by
  rw [stop, h]
  exact OnRead.of_complete ..

/-- Settles O58: each instruction by each policy. -/
theorem haltAndStopFollowThePolicy : Obligations.HaltAndStopFollowThePolicy :=
  ⟨rfl, rfl, fun _ => ⟨primaryAbsent_iff_policy (.inr rfl), primaryAbsent_iff_policy (.inl rfl),
    fun h => ⟨halt_of_decodeError h, stop_of_decodeError h⟩, fun h => ⟨halt_of_nop h, stop_onRead h⟩⟩⟩

end Sys2Proof.Machine
end
